-- ==== Sys2Proof/Word.lean ====
section
/-!
DEFINITION. The carriers of the engine and the five word widths.
-/

namespace Sys2Proof

/-- A byte is 8 bits (00_scope.md R10). -/
abbrev Byte := BitVec 8

/-- Every Word register, memory cell and port is 128 bits wide; a Word of width `w < 128` stands in
bits `w-1:0` with the bits above zero (00_scope.md R11). -/
abbrev Carrier := BitVec 128

/-- The word widths of the engine: `w` is 8, 16, 32, 64 or 128 and no other (00_scope.md R5). -/
inductive Width
  | w8 | w16 | w32 | w64 | w128
deriving DecidableEq, Repr

/-- The number of bits `w` (00_scope.md R5). -/
def Width.bits : Width → Nat
  | .w8 => 8
  | .w16 => 16
  | .w32 => 32
  | .w64 => 64
  | .w128 => 128

/-- The number of bytes `u = w / 8` (00_scope.md R5, Table R8-a). -/
def Width.bytes (w : Width) : Nat := w.bits / 8

end Sys2Proof
end

