-- ==== Sys2Proof/Config.lean ====
section
/-!
DEFINITION. What is fixed for the machine. The spec leaves no value open (93_implementation_defined.md):
its one open parameter, PLATFORM_ATTACH, is read by no rule, so there is no free value here.
-/

namespace Sys2Proof.Config

/-- `RMAX`, the largest round count the engine accepts (00_scope.md R7). -/
def roundMax : Nat := 255

/-- `BMAX`, the largest key length in bytes and the number of `BUF` cells (00_scope.md R6, 20_memory.md R50). -/
def bufDepth : Nat := 255

/-- `CMAX`, the number of `L` cells (00_scope.md Table R8-a, 20_memory.md R50). -/
def keyDepth : Nat := 255

/-- `TMAX`, the number of `S` cells (00_scope.md Table R8-a, 20_memory.md R50). -/
def tableDepth : Nat := 512

end Sys2Proof.Config
end

