-- ==== Sys2Proof/Machine/State.lean ====
section
/-!
DEFINITION. The state of the engine and of its interface, the reset state, and how a step can stop.
-/

namespace Sys2Proof.Machine

/-- A memory of cells of `m` bits: the cells that are not zero, as (index, value) pairs. `Memory 8` is a
list of `Host.Cell`. The canonical form is `Memory.wf`. -/
abbrev Memory (m : Nat) := List (Nat × BitVec m)

/-- What a cell that is not listed reads as: zero, the reset contents of every cell (10_state.md R35)
and its contents whenever the engine is idle (10_state.md R33). -/
def Memory.unlisted (m : Nat) : BitVec m := 0

/-- The canonical form of a memory of `depth` cells: indexes strictly rising and below `depth`, no entry
equal to what an unlisted cell reads as. -/
abbrev Memory.wf {m : Nat} (depth : Nat) (cells : Memory m) : Prop :=
  cells.Pairwise (fun c d => c.1 < d.1) ∧ ∀ c ∈ cells, c.1 < depth ∧ c.2 ≠ Memory.unlisted m

/-- The run state `ST`, one bit (10_state.md R21). -/
inductive RunState
  | idle | busy
deriving DecidableEq, Repr

/-- The sequencer phase `PH` (10_state.md R28, Table R28-a). -/
inductive Phase
  | idle | check | exec | pack | init | mix | pre | rounds | post | finish
deriving DecidableEq, Repr

/-- A request: the command word, the two operand Words and the byte buffer of 255 cells
(10_state.md R22, 20_memory.md R51). -/
structure Request where
  CMD : BitVec 32
  X0 : Carrier
  X1 : Carrier
  BUF : Memory 8
deriving DecidableEq, Repr

/-- Every field zero (10_state.md Table R35-a). -/
def Request.zero : Request := { CMD := 0, X0 := 0, X1 := 0, BUF := [] }

/-- The status of a response (60_exceptions.md Table R180-a); no other value is ever produced. -/
inductive Status
  | ok | badLength | conversionError | illegalCommand
deriving DecidableEq, Repr

/-- A response (10_state.md Table R29-a). `OLEN` is the length of `OB` and `TLEN` the length of `TBL`. -/
structure Response where
  STATUS : Status
  Y0 : Carrier
  Y1 : Carrier
  OB : List Byte
  TBL : List Carrier
deriving DecidableEq, Repr

/-- Every field zero or empty (10_state.md R29). -/
def Response.zero : Response := { STATUS := .ok, Y0 := 0, Y1 := 0, OB := [], TBL := [] }

/-- One move of an agent (10_state.md R20). The host presents a request, drives its ports, or causes a
reset (70_reset_and_hazards.md R210, R213, R214); the engine moves, or makes one move of its sequencer
(70_reset_and_hazards.md R215). -/
inductive Turn
  /-- The host presents the request that stands on its ports (R213). -/
  | present
  /-- The host puts other values on its ports (R214). -/
  | drive (rq : Request)
  /-- The host or the platform resets the engine (R210). -/
  | reset
  /-- The engine moves as it does when no turn is listed. -/
  | engine
  /-- The engine makes one move of its sequencer (10_state.md R28). -/
  | phase
deriving DecidableEq, Repr

/-- The state. Down to `RSP` it is the engine; `ports`, `agenda` and `responses` are the interface to
the host. The constant ROM is not a field: nothing writes it (10_state.md R27). -/
structure State where
  /-- The run state (10_state.md R21). -/
  ST : RunState
  /-- The sequencer phase (10_state.md R28). -/
  PH : Phase
  /-- The request latch (10_state.md R22). -/
  RQ : Request
  /-- A general Word register (10_state.md R23). -/
  A : Carrier
  /-- A general Word register (10_state.md R23). -/
  B : Carrier
  /-- Index into `S`, 0 to 511 (10_state.md Table R24-a). -/
  i : Fin 512
  /-- Index into `L`, 0 to 254 (10_state.md Table R24-a). -/
  j : Fin 255
  /-- Count of MIX iterations done, 0 to 1536 (10_state.md Table R24-a). -/
  k : Fin 1537
  /-- Key byte index in PACK, 0 to 254 (10_state.md Table R24-a). -/
  h : Fin 255
  /-- Round number, at most 255 (10_state.md Table R24-a). -/
  rnd : Fin 256
  /-- The packed key, 255 cells (20_memory.md R52). -/
  L : Memory 128
  /-- The subkey table, 512 cells (20_memory.md R53). -/
  S : Memory 128
  /-- The response being built (10_state.md R29; `Y0` and `Y1` are registers of 00_scope.md Table R13-a). -/
  RSP : Response
  /-- The values now on the host's ports (70_reset_and_hazards.md R213). -/
  ports : Request
  /-- The moves of the agents still to come, the next one first. -/
  agenda : List Turn
  /-- The responses delivered to the host, oldest first (70_reset_and_hazards.md R216). -/
  responses : List Response
deriving DecidableEq, Repr

/-- The machine right after reset (10_state.md Table R35-a). -/
def State.reset : State :=
  { ST := .idle, PH := .idle, RQ := Request.zero, A := 0, B := 0, i := 0, j := 0, k := 0, h := 0, rnd := 0,
    L := [], S := [], RSP := Response.zero, ports := Request.zero, agenda := [], responses := [] }

/-! ### Named updates, one for each field -/

def State.setST (s : State) (v : RunState) : State := { s with ST := v }
def State.setPH (s : State) (v : Phase) : State := { s with PH := v }
def State.setRQ (s : State) (v : Request) : State := { s with RQ := v }
def State.setA (s : State) (v : Carrier) : State := { s with A := v }
def State.setB (s : State) (v : Carrier) : State := { s with B := v }
def State.setI (s : State) (v : Fin 512) : State := { s with i := v }
def State.setJ (s : State) (v : Fin 255) : State := { s with j := v }
def State.setK (s : State) (v : Fin 1537) : State := { s with k := v }
def State.setH (s : State) (v : Fin 255) : State := { s with h := v }
def State.setRnd (s : State) (v : Fin 256) : State := { s with rnd := v }
def State.setL (s : State) (v : Memory 128) : State := { s with L := v }
def State.setS (s : State) (v : Memory 128) : State := { s with S := v }
def State.setRSP (s : State) (v : Response) : State := { s with RSP := v }
def State.setPorts (s : State) (v : Request) : State := { s with ports := v }
def State.setAgenda (s : State) (v : List Turn) : State := { s with agenda := v }
def State.setResponses (s : State) (v : List Response) : State := { s with responses := v }

/-- How a step can stop. The spec's own errors are not here: they end a command with a response and the
machine goes on (60_exceptions.md R186). -/
inductive Fault
  /-- The sequencer is BUSY in a phase the command in flight does not have: Table R28-a of 10_state.md
  gives it no statement to run. Raised by the sequencer (`tick`). Safe: no run from reset reaches it. -/
  | strayPhase (p : Phase)
deriving DecidableEq, Repr

/-- Why an instruction has no meaning. Every command has its meaning, so no step answers one. -/
inductive Refusal
  /-- The instruction is not modelled. Raised by no arm. Safe. -/
  | notModelled (mnemonic : String)
deriving DecidableEq, Repr

/-- What a meaning answers. -/
abbrev Result := Host.Outcome State Fault Refusal

end Sys2Proof.Machine
end

