-- ==== Sys2Proof/Machine/WordOps.lean ====
section
/-!
DEFINITION. The operators on Words of one width (00_scope.md Table R12-a, 41_rotate.md R111, R112): operands as
integers, the exact result, then one explicit narrowing.
-/

namespace Sys2Proof.Machine

/-- `zext_128(x mod 2^w)`: the Word of width `w` that an integer wraps to (00_scope.md R11). -/
def narrow (w : Width) (x : Nat) : Carrier := BitVec.ofNat 128 (x % 2 ^ w.bits)

/-- `a +w b = (a + b) mod 2^w`. -/
def wadd (w : Width) (a b : Carrier) : Carrier := narrow w (a.toNat + b.toNat)

/-- `a -w b = (a + 2^w - b) mod 2^w` (40_word_arith.md Pseudocode R101). -/
def wsub (w : Width) (a b : Carrier) : Carrier := narrow w (a.toNat + 2 ^ w.bits - b.toNat)

/-- `a xor b`, bit by bit. PRESUMED meaning: the spec marks it as general knowledge (log entry 7). -/
def wxor (a b : Carrier) : Carrier := a ^^^ b

/-- `shl8_w(a) = (a * 256) mod 2^w`. -/
def shl8 (w : Width) (a : Carrier) : Carrier := narrow w (a.toNat * 256)

/-- The rotation amount, a whole Word reduced modulo `w` by the rotator itself (41_rotate.md R110). -/
def rotAmount (w : Width) (s : Carrier) : Nat := s.toNat % w.bits

/-- `ROTL_w(x, s)` (41_rotate.md Pseudocode R111). PRESUMED direction, toward the most significant bit: the
spec marks it as general knowledge (log entry 7). -/
def rotl (w : Width) (x s : Carrier) : Carrier :=
  let m := rotAmount w s
  if m = 0 then x
  else BitVec.ofNat 128 (x.toNat * 2 ^ m % 2 ^ w.bits + x.toNat / 2 ^ (w.bits - m))

/-- `ROTR_w(x, s)` (41_rotate.md Pseudocode R112). PRESUMED direction (log entry 7). -/
def rotr (w : Width) (x s : Carrier) : Carrier :=
  let m := rotAmount w s
  if m = 0 then x
  else BitVec.ofNat 128 (x.toNat / 2 ^ m + x.toNat % 2 ^ m * 2 ^ (w.bits - m))

/-- `zext_w` of a byte (43_key_schedule.md R142). -/
def wordOfByte (b : Byte) : Carrier := b.setWidth 128

end Sys2Proof.Machine
end

