-- ==== Sys2Proof/Machine/Operands.lean ====
section
/-!
DEFINITION. The operand forms of the commands: the operand ports, the byte string, and the sizes that the count
fields stand for.
-/

namespace Sys2Proof.Machine

/-- Whether an operand port carries a Word of width `w`: bits `127:w` are zero (30_encoding.md R81). -/
def fitsWord (w : Width) (x : Carrier) : Bool := x >>> w.bits == 0#128

/-- `RQ.X[w-1:0]`, the Word on an operand port (40_word_arith.md Pseudocode R100). -/
def portWord (w : Width) (x : Carrier) : Carrier := narrow w x.toNat

/-- `T = 2 * (r + 1)`, the number of Words of the subkey table (00_scope.md Table R8-a). -/
def tableSize (r : Nat) : Nat := 2 * (r + 1)

/-- `c = max(1, ceil(8 * b / w))`, the number of Words of the packed key (00_scope.md Table R8-a). -/
def keyWords (w : Width) (b : Nat) : Nat := max 1 ((8 * b + w.bits - 1) / w.bits)

/-- `n = 3 * max(c, T)`, the number of MIX iterations (00_scope.md Table R8-a). -/
def mixCount (w : Width) (b r : Nat) : Nat := 3 * max (keyWords w b) (tableSize r)

end Sys2Proof.Machine
end

