-- ==== Sys2Proof/Machine/Flags.lean ====
section
/-!
DEFINITION. The engine has no flags (10_state.md R30): its one outcome indicator is the STATUS of a response. Here
are the status codes and the checks that decide a status (60_exceptions.md R180 to R185).
-/

namespace Sys2Proof.Machine

/-- The 8-bit code of a status (60_exceptions.md Table R180-a). -/
def Status.code : Status → BitVec 8
  | .ok => 0x00#8
  | .badLength => 0x01#8
  | .conversionError => 0x02#8
  | .illegalCommand => 0x03#8

/-- The operand ports a command reads must carry Words of its width (30_encoding.md R81). -/
def checkPorts (w : Width) (ports : List Carrier) : Option Status :=
  if ports.all (fitsWord w) then none else some .conversionError

/-- The check of ADD, SUB, ROTL and ROTR, which read both ports (30_encoding.md Table R80-a). -/
def checkPair (w : Width) (rq : Request) : Option Status := checkPorts w [rq.X0, rq.X1]

/-- The check of TOLE, which reads `X0` only (30_encoding.md Table R80-a). -/
def checkSingle (w : Width) (rq : Request) : Option Status := checkPorts w [rq.X0]

/-- The length check of FROMLE (42_word_bytes_const.md R121). -/
def checkString (w : Width) (n : Nat) : Option Status :=
  if n = w.bytes then none else some .conversionError

/-- The round-count check of EXPKEY, ENC and DEC (60_exceptions.md R181). -/
def checkRounds (r : Nat) : Option Status :=
  if r ≤ Config.roundMax then none else some .badLength

/-- The checks of ENC and DEC: the operand ports before the round count (30_encoding.md R85). -/
def checkBlock (w : Width) (r : Nat) (rq : Request) : Option Status :=
  (checkPair w rq).or (checkRounds r)

end Sys2Proof.Machine
end

