-- ==== Sys2Proof/Machine/Ops.lean ====
section
/-!
DEFINITION. The named operations the commands share: reading and writing memory cells, accepting a request, error
entry, completion, and the response forms.
-/

namespace Sys2Proof.Machine

/-! ### Memory cells -/

/-- One cell of a memory. Reading changes nothing (20_memory.md R57). -/
def Memory.read {m : Nat} : Memory m → Nat → BitVec m
  | [], _ => Memory.unlisted m
  | (b, v) :: cells, a => if a = b then v else Memory.read cells a

/-- A write of one whole cell (20_memory.md R57), keeping the canonical form. -/
def Memory.write {m : Nat} : Memory m → Nat → BitVec m → Memory m
  | [], a, v => if v = Memory.unlisted m then [] else [(a, v)]
  | (b, u) :: cells, a, v =>
    if a < b then
      if v = Memory.unlisted m then (b, u) :: cells else (a, v) :: (b, u) :: cells
    else if a = b then
      if v = Memory.unlisted m then cells else (a, v) :: cells
    else (b, u) :: Memory.write cells a v

/-- The cells 0 to `count - 1` set to zero (43_key_schedule.md Pseudocode R142). -/
def Memory.clear {m : Nat} (count : Nat) (cells : Memory m) : Memory m :=
  (List.range count).foldl (fun acc q => Memory.write acc q 0) cells

/-- A copy of the cells 0 to `count - 1` (70_reset_and_hazards.md R213). -/
def Memory.copy {m : Nat} (count : Nat) (cells : Memory m) : Memory m :=
  (List.range count).foldr (fun q acc => Memory.write acc q (Memory.read cells q)) []

/-- The cells 0 to `count - 1` in index order (43_key_schedule.md R145). -/
def Memory.toList {m : Nat} (count : Nat) (cells : Memory m) : List (BitVec m) :=
  (List.range count).map (Memory.read cells)

/-! ### The responses of successful commands (30_encoding.md Table R82-a) -/

/-- One result Word. -/
def Response.word (y : Carrier) : Response := { STATUS := .ok, Y0 := y, Y1 := 0, OB := [], TBL := [] }

/-- A result byte string. -/
def Response.bytes (ob : List Byte) : Response := { STATUS := .ok, Y0 := 0, Y1 := 0, OB := ob, TBL := [] }

/-- The subkey table. -/
def Response.table (tbl : List Carrier) : Response := { STATUS := .ok, Y0 := 0, Y1 := 0, OB := [], TBL := tbl }

/-- A block of two Words. -/
def Response.block (a b : Carrier) : Response := { STATUS := .ok, Y0 := a, Y1 := b, OB := [], TBL := [] }

/-- An error: the status code and nothing else (60_exceptions.md R186). -/
def Response.error (e : Status) : Response := { STATUS := e, Y0 := 0, Y1 := 0, OB := [], TBL := [] }

/-! ### The life of a command -/

/-- The engine with every element at its reset value; the host's side is not the engine's and stays
(10_state.md R35, 70_reset_and_hazards.md R210). This is the reset event. -/
def clearEngine (s : State) : State :=
  { State.reset with ports := s.ports, agenda := s.agenda, responses := s.responses }

/-- Acceptance of a request, one atomic event: the ports are copied into `RQ`, `ST` becomes BUSY and `PH`
CHECK (70_reset_and_hazards.md R213). -/
def accept (s : State) : State :=
  ((s.setRQ { s.ports with BUF := Memory.copy Config.bufDepth s.ports.BUF }).setST .busy).setPH .check

/-- A request presented while BUSY changes nothing (70_reset_and_hazards.md R213). -/
def present (s : State) : State := if s.ST = .idle then accept s else s

/-- The command passed CHECK: the response starts with every field zero or empty (10_state.md R29). -/
def passCheck (s : State) : State := s.setRSP Response.zero

/-- Error entry, the one way a command fails: from CHECK straight to FINISH, the response being the status
code alone (60_exceptions.md R186). Nothing else is saved. -/
def reject (e : Status) (s : State) : State := (s.setRSP (Response.error e)).setPH .finish

/-- Completion, on success and on error alike, and with it the return from an error: the response is
delivered, the whole engine is cleared and `ST` is IDLE (70_reset_and_hazards.md R216,
60_exceptions.md R187). -/
def complete (s : State) : State := (clearEngine s).setResponses (s.responses ++ [s.RSP])

/-- A whole command: CHECK, then its work when every check passed or error entry when one failed, then
completion (10_state.md R28, 70_reset_and_hazards.md R215). -/
def command (check : Option Status) (work : State → State) (s : State) : Result :=
  .next (complete (match check with
    | some e => reject e s
    | none => work (passCheck s)))

/-- EXEC of a command with one result: the response is written and FINISH comes next (10_state.md
Table R28-a). -/
def answer (rsp : Response) (s : State) : State := (s.setRSP rsp).setPH .finish

end Sys2Proof.Machine
end

