-- ==== Sys2Proof/Machine/Rom.lean ====
section
/-!
DEFINITION. The constant ROM.
-/

namespace Sys2Proof.Machine

/-- The magic constant `P_w` (10_state.md Table R27-a). PRESUMED: the spec marks the literals as general
knowledge (log entry 6). -/
def romP : Width → Carrier
  | .w8 => 0xB7#128
  | .w16 => 0xB7E1#128
  | .w32 => 0xB7E15163#128
  | .w64 => 0xB7E151628AED2A6B#128
  | .w128 => 0xB7E151628AED2A6ABF7158809CF4F3C7#128

/-- The magic constant `Q_w` (10_state.md Table R27-a). PRESUMED: as `romP` (log entry 6). -/
def romQ : Width → Carrier
  | .w8 => 0x9F#128
  | .w16 => 0x9E37#128
  | .w32 => 0x9E3779B9#128
  | .w64 => 0x9E3779B97F4A7C15#128
  | .w128 => 0x9E3779B97F4A7C15F39CC0605CEDC835#128

end Sys2Proof.Machine
end

