-- ==== Sys2Proof/Machine/KeySchedule.lean ====
section
/-!
DEFINITION. KSX unit: the phases PACK, INIT and MIX, and EXPKEY (43_key_schedule.md). A phase is its entry, which
runs the statements before its loop, and its loop body; the sequencer uses the same two.
-/

namespace Sys2Proof.Machine

/-! ### PACK (43_key_schedule.md R142) -/

/-- Entry of PACK: `L[0..c-1]` is cleared and `h` stands at the last key byte. -/
def enterPack (w : Width) (n : Nat) (s : State) : State :=
  ((s.setL (Memory.clear (keyWords w n) s.L)).setH (Fin.ofNat 255 (n - 1))).setPH .pack

/-- One iteration of PACK: key byte `h` is accumulated into `L[h div u]`, and `h` goes down; it stays at 0
after the last iteration (log entry 8). -/
def packIter (w : Width) (s : State) : State :=
  let q := s.h.val / w.bytes
  let v := wadd w (shl8 w (Memory.read s.L q)) (wordOfByte (Memory.read s.RQ.BUF s.h.val))
  (s.setL (Memory.write s.L q v)).setH (Fin.ofNat 255 (s.h.val - 1))

/-- PACK as a whole: `n` iterations. -/
def packPhase (w : Width) (n : Nat) (s : State) : State := (packIter w)^[n] (enterPack w n s)

/-! ### INIT (43_key_schedule.md R143) -/

/-- Entry of INIT: `S[0]` is `P_w` and `i` stands at 1. -/
def enterInit (w : Width) (s : State) : State :=
  ((s.setS (Memory.write s.S 0 (romP w))).setI 1).setPH .init

/-- One iteration of INIT: `S[i] <- S[i-1] + Q_w`, and `i` goes up; it stays at `T-1` after the last
iteration (log entry 8). -/
def initIter (w : Width) (r : Nat) (s : State) : State :=
  let v := wadd w (Memory.read s.S (s.i.val - 1)) (romQ w)
  (s.setS (Memory.write s.S s.i.val v)).setI
    (if s.i.val + 1 < tableSize r then Fin.ofNat 512 (s.i.val + 1) else s.i)

/-- INIT as a whole: the entry and `T - 1` iterations. -/
def initPhase (w : Width) (r : Nat) (s : State) : State := (initIter w r)^[tableSize r - 1] (enterInit w s)

/-! ### MIX (43_key_schedule.md R144) -/

/-- Entry of MIX: `A`, `B`, `i`, `j` and the count `k` are zero. -/
def enterMix (s : State) : State := (((((s.setA 0).setB 0).setI 0).setJ 0).setK 0).setPH .mix

/-- The first two statements of an iteration: `S[i] <- ROTL_w(S[i] + A + B, 3)`, then `A <- S[i]`. -/
def mixTable (w : Width) (s : State) : State :=
  let v := rotl w (wadd w (wadd w (Memory.read s.S s.i.val) s.A) s.B) 3
  let t := s.setS (Memory.write s.S s.i.val v)
  t.setA (Memory.read t.S t.i.val)

/-- The next two, with the new `A` and the old `B`: `L[j] <- ROTL_w(L[j] + V, V)` where `V = A + B`, then
`B <- L[j]`. -/
def mixKey (w : Width) (s : State) : State :=
  let v := wadd w s.A s.B
  let t := s.setL (Memory.write s.L s.j.val (rotl w (wadd w (Memory.read s.L s.j.val) v) v))
  t.setB (Memory.read t.L t.j.val)

/-- The last: `i` and `j` advance, each wrapping at its own length (20_memory.md R67), and the iteration is
counted. -/
def mixAdvance (w : Width) (n r : Nat) (s : State) : State :=
  ((s.setI (Fin.ofNat 512 ((s.i.val + 1) % tableSize r))).setJ
    (Fin.ofNat 255 ((s.j.val + 1) % keyWords w n))).setK (Fin.ofNat 1537 (s.k.val + 1))

/-- One iteration of MIX: the statements in the order written. -/
def mixIter (w : Width) (n r : Nat) (s : State) : State := mixAdvance w n r (mixKey w (mixTable w s))

/-- MIX as a whole: `3 * max(c, T)` iterations. -/
def mixPhase (w : Width) (n r : Nat) (s : State) : State := (mixIter w n r)^[mixCount w n r] (enterMix s)

/-- The key schedule, the same in EXPKEY, ENC and DEC (43_key_schedule.md R148). -/
def keySchedule (w : Width) (n r : Nat) (s : State) : State :=
  mixPhase w n r (initPhase w r (packPhase w n s))

/-! ### EXPKEY -/

/-- The response of EXPKEY: the table `S[0..T-1]` in index order (43_key_schedule.md R145). -/
def tableResponse (r : Nat) (s : State) : State := s.setRSP (Response.table (Memory.toList (tableSize r) s.S))

/-- EXPKEY after CHECK (43_key_schedule.md R140). -/
def expkeyWork (w : Width) (n r : Nat) (s : State) : State :=
  tableResponse r ((keySchedule w n r s).setPH .finish)

/-- EXPKEY (43_key_schedule.md R140). -/
def execExpkey (w : Width) (n r : Nat) (s : State) : Result := command (checkRounds r) (expkeyWork w n r) s

end Sys2Proof.Machine
end

