-- ==== Sys2Proof/Machine/BlockTransform.lean ====
section
/-!
DEFINITION. BLK unit: ENC and DEC (44_block_transform.md).
-/

namespace Sys2Proof.Machine

/-! ### ENC (44_block_transform.md R160) -/

/-- PRE: `S[0]` and `S[1]` are added to the block, and ROUNDS starts at round 1. -/
def prePhase (w : Width) (s : State) : State :=
  (((s.setA (wadd w (portWord w s.RQ.X0) (Memory.read s.S 0))).setB
    (wadd w (portWord w s.RQ.X1) (Memory.read s.S 1))).setRnd 1).setPH .rounds

/-- The first statement of an ENC round. -/
def encHalfA (w : Width) (s : State) : State :=
  s.setA (wadd w (rotl w (wxor s.A s.B) s.B) (Memory.read s.S (2 * s.rnd.val)))

/-- The second, which reads the new `A` (70_reset_and_hazards.md R218). -/
def encHalfB (w : Width) (s : State) : State :=
  s.setB (wadd w (rotl w (wxor s.B s.A) s.A) (Memory.read s.S (2 * s.rnd.val + 1)))

/-- One ENC round. `rnd` goes up; it stays at `r` after the last round (log entry 8). -/
def encRound (w : Width) (r : Nat) (s : State) : State :=
  (encHalfB w (encHalfA w s)).setRnd (if s.rnd.val < r then Fin.ofNat 256 (s.rnd.val + 1) else s.rnd)

/-- ROUNDS of ENC as a whole: `r` rounds, ascending. -/
def encRounds (w : Width) (r : Nat) (s : State) : State := (encRound w r)^[r] s

/-! ### DEC (44_block_transform.md R161) -/

/-- Entry of ROUNDS in DEC: the block is taken from the operand ports, and ROUNDS starts at round `r`. -/
def enterDecRounds (w : Width) (r : Nat) (s : State) : State :=
  (((s.setA (portWord w s.RQ.X0)).setB (portWord w s.RQ.X1)).setRnd (Fin.ofNat 256 r)).setPH .rounds

/-- The first statement of a DEC round. -/
def decHalfB (w : Width) (s : State) : State :=
  s.setB (wxor (rotr w (wsub w s.B (Memory.read s.S (2 * s.rnd.val + 1))) s.A) s.A)

/-- The second, which reads the new `B` (70_reset_and_hazards.md R218). -/
def decHalfA (w : Width) (s : State) : State :=
  s.setA (wxor (rotr w (wsub w s.A (Memory.read s.S (2 * s.rnd.val))) s.B) s.B)

/-- One DEC round. `rnd` goes down; it stays at 1 after the last round (log entry 8). -/
def decRound (w : Width) (s : State) : State :=
  (decHalfA w (decHalfB w s)).setRnd (if 1 < s.rnd.val then Fin.ofNat 256 (s.rnd.val - 1) else s.rnd)

/-- ROUNDS of DEC as a whole: `r` rounds, descending. -/
def decRounds (w : Width) (r : Nat) (s : State) : State := (decRound w)^[r] s

/-- POST: `S[0]` and `S[1]` are subtracted from the block. -/
def postPhase (w : Width) (s : State) : State :=
  ((s.setA (wsub w s.A (Memory.read s.S 0))).setB (wsub w s.B (Memory.read s.S 1))).setPH .finish

/-! ### The commands -/

/-- The response of ENC and DEC: the block and no table (44_block_transform.md R164). -/
def blockResponse (s : State) : State := s.setRSP (Response.block s.A s.B)

/-- ENC after CHECK. -/
def encWork (w : Width) (n r : Nat) (s : State) : State :=
  blockResponse ((encRounds w r (prePhase w ((keySchedule w n r s).setPH .pre))).setPH .finish)

/-- DEC after CHECK. -/
def decWork (w : Width) (n r : Nat) (s : State) : State :=
  blockResponse (postPhase w ((decRounds w r (enterDecRounds w r (keySchedule w n r s))).setPH .post))

/-- ENC (44_block_transform.md R160). -/
def execEnc (w : Width) (n r : Nat) (s : State) : Result := command (checkBlock w r s.RQ) (encWork w n r) s

/-- DEC (44_block_transform.md R161). -/
def execDec (w : Width) (n r : Nat) (s : State) : Result := command (checkBlock w r s.RQ) (decWork w n r) s

end Sys2Proof.Machine
end

