-- ==== Sys2Proof/Syntax.lean ====
section
/-!
DEFINITION. The ten commands, one constructor for each row of the opcode map (30_encoding.md Table R76-a).
-/

namespace Sys2Proof

/-- The constant selector `SEL` of CONST (30_encoding.md R74, 42_word_bytes_const.md Table R122-a). -/
inductive ConstSel
  | zero | bytes | p | q
deriving DecidableEq, Repr

/-- A command. `w` is the word width of its `WSEL`; `n` is the byte count in its `N` field; `r` is the
round count in its `R` field. The Words and bytes it works on come from the operand ports
(30_encoding.md R80), not from the command word. -/
inductive Instr
  | add (w : Width)
  | sub (w : Width)
  | rotl (w : Width)
  | rotr (w : Width)
  | tole (w : Width)
  | fromle (w : Width) (n : Nat)
  | const (w : Width) (sel : ConstSel)
  | expkey (w : Width) (n r : Nat)
  | enc (w : Width) (n r : Nat)
  | dec (w : Width) (n r : Nat)
deriving DecidableEq, Repr

/-- The word width of a command: every command has one (30_encoding.md R72). -/
def Instr.width : Instr → Width
  | .add w => w
  | .sub w => w
  | .rotl w => w
  | .rotr w => w
  | .tole w => w
  | .fromle w _ => w
  | .const w _ => w
  | .expkey w _ _ => w
  | .enc w _ _ => w
  | .dec w _ _ => w

end Sys2Proof
end

