-- ==== Sys2Proof/WellFormed.lean ====
section
/-!
DEFINITION. When a command can be written as a command word: its counts fit their fields.
-/

namespace Sys2Proof

/-- `N` is an unsigned 8-bit field (30_encoding.md R74). -/
def fitsN (n : Nat) : Bool := decide (n < 256)

/-- `R` is an unsigned 16-bit field (30_encoding.md R75). -/
def fitsR (r : Nat) : Bool := decide (r < 65536)

/-- The well-formed commands. A round count above 255 is well formed: it is legal to encode and makes
the command fail with BadLength (30_encoding.md R75). -/
def Instr.wf : Instr → Bool
  | .add _ => true
  | .sub _ => true
  | .rotl _ => true
  | .rotr _ => true
  | .tole _ => true
  | .fromle _ n => fitsN n
  | .const _ _ => true
  | .expkey _ n r => fitsN n && fitsR r
  | .enc _ n r => fitsN n && fitsR r
  | .dec _ n r => fitsN n && fitsR r

end Sys2Proof
end

