-- ==== Sys2Proof/Decode.lean ====
section
/-!
DEFINITION. The decoder, total on every command word and every byte string and rejecting by name, and after
it the encoder, both from the field layout of 30_encoding.md R71 and the opcode map R76.
-/

namespace Sys2Proof

/-- `v[hi:lo]`, the unsigned integer made of bits `hi` down to `lo` of `v` (00_scope.md R10). -/
def slice {m : Nat} (v : BitVec m) (hi lo : Nat) : Nat := v.toNat / 2 ^ lo % 2 ^ (hi + 1 - lo)

/-- Byte `k` of a carrier is `x[8k+7:8k]` (00_scope.md R10). -/
def byteOf (x : Carrier) (k : Nat) : Byte := BitVec.ofNat 8 (slice x (8 * k + 7) (8 * k))

/-! ### The fields of the command word (30_encoding.md Table R71-a) -/

def opField (c : BitVec 32) : Nat := slice c 3 0
def wselField (c : BitVec 32) : Nat := slice c 6 4
def z7Field (c : BitVec 32) : Nat := slice c 7 7
def nField (c : BitVec 32) : Nat := slice c 15 8
def rField (c : BitVec 32) : Nat := slice c 31 16

/-- Width select (30_encoding.md Table R72-a): `w = 8 * 2^WSEL`; 5, 6, 7 are reserved. -/
def widthOfSel : Nat → Option Width
  | 0 => some .w8
  | 1 => some .w16
  | 2 => some .w32
  | 3 => some .w64
  | 4 => some .w128
  | _ => none

/-- The `WSEL` code of a width (30_encoding.md Table R72-a). -/
def Width.sel : Width → Nat
  | .w8 => 0
  | .w16 => 1
  | .w32 => 2
  | .w64 => 3
  | .w128 => 4

/-- The CONST selector (30_encoding.md R74): 4 to 255 are reserved. -/
def constSelOf : Nat → Option ConstSel
  | 0 => some .zero
  | 1 => some .bytes
  | 2 => some .p
  | 3 => some .q
  | _ => none

/-- The selector code of a constant (30_encoding.md R74). -/
def ConstSel.code : ConstSel → Nat
  | .zero => 0
  | .bytes => 1
  | .p => 2
  | .q => 3

/-- Why a word spells no command (30_encoding.md R77), or why a byte string holds no whole command word.
The engine does not report the reason: every illegal word ends with IllegalCommand. -/
inductive Reject
  /-- Bit 7 is set. -/
  | reservedBit
  /-- `WSEL` is 5, 6 or 7. -/
  | reservedWidth
  /-- `OP` is 0x0 or 0xB to 0xF. -/
  | reservedOperation
  /-- `N` is not zero in ADD, SUB, ROTL, ROTR or TOLE. -/
  | nNotZero
  /-- `N` is 4 or more in CONST. -/
  | reservedSelector
  /-- `R` is not zero in a command other than EXPKEY, ENC, DEC. -/
  | rNotZero
  /-- Fewer than four bytes: no whole command word (30_encoding.md R70). -/
  | truncated
deriving DecidableEq, Repr

/-- A command with no `N` and no `R` operand: both fields must be zero (30_encoding.md R74, R75). -/
def bareCommand (c : BitVec 32) (i : Instr) : Except Reject Instr :=
  if nField c ≠ 0 then .error .nNotZero
  else if rField c ≠ 0 then .error .rNotZero
  else .ok i

/-- The operation of a word whose width is `w` and whose reserved bit is zero (30_encoding.md Table R73-a). -/
def decodeOp (c : BitVec 32) (w : Width) : Except Reject Instr :=
  match opField c with
  | 0x1 => bareCommand c (.add w)
  | 0x2 => bareCommand c (.sub w)
  | 0x3 => bareCommand c (.rotl w)
  | 0x4 => bareCommand c (.rotr w)
  | 0x5 => bareCommand c (.tole w)
  | 0x6 => if rField c ≠ 0 then .error .rNotZero else .ok (.fromle w (nField c))
  | 0x7 =>
    if rField c ≠ 0 then .error .rNotZero
    else match constSelOf (nField c) with
      | none => .error .reservedSelector
      | some sel => .ok (.const w sel)
  | 0x8 => .ok (.expkey w (nField c) (rField c))
  | 0x9 => .ok (.enc w (nField c) (rField c))
  | 0xA => .ok (.dec w (nField c) (rField c))
  | _ => .error .reservedOperation

/-- Decoding is total on the 32-bit words (30_encoding.md R72 to R77, R85). -/
def decode (c : BitVec 32) : Except Reject Instr :=
  if z7Field c ≠ 0 then .error .reservedBit
  else match widthOfSel (wselField c) with
    | none => .error .reservedWidth
    | some w => decodeOp c w

/-- The command word of four bytes, least significant byte first (20_memory.md R66). -/
def wordOfBytes (b0 b1 b2 b3 : Byte) : BitVec 32 :=
  BitVec.ofNat 32 (b0.toNat + 256 * b1.toNat + 65536 * b2.toNat + 16777216 * b3.toNat)

/-- Decoding a serialised command: one command word and the bytes after it (20_memory.md R66). -/
def decodeBytes : List Byte → Except Reject (Instr × List Byte)
  | b0 :: b1 :: b2 :: b3 :: rest =>
    match decode (wordOfBytes b0 b1 b2 b3) with
    | .error e => .error e
    | .ok i => .ok (i, rest)
  | _ => .error .truncated

/-- The bytes of the instruction whose bits are the low `nbits` bits of `w`, the bits above zero
(20_memory.md R66). -/
def tableBytes (nbits w : Nat) : List Byte :=
  (List.range 4).map fun k => BitVec.ofNat 8 (w % 2 ^ nbits / 256 ^ k)

/-- The instruction the decoder reads from the bits the opcode table numbers. -/
def decodeTableWord (nbits w : Nat) : Option Instr :=
  match decodeBytes (tableBytes nbits w) with
  | .ok (i, _) => some i
  | .error _ => none

/-! ### The encoder -/

/-- `CMD = OP + 16*WSEL + 128*Z7 + 256*N + 65536*R` with `Z7 = 0` (30_encoding.md R71). -/
def packFields (op : Nat) (w : Width) (n r : Nat) : BitVec 32 :=
  BitVec.ofNat 32 (op + 16 * w.sel + 256 * n + 65536 * r)

/-- The operation code `OP` (30_encoding.md Table R73-a). -/
def Instr.opcode : Instr → Nat
  | .add _ => 0x1
  | .sub _ => 0x2
  | .rotl _ => 0x3
  | .rotr _ => 0x4
  | .tole _ => 0x5
  | .fromle _ _ => 0x6
  | .const _ _ => 0x7
  | .expkey _ _ _ => 0x8
  | .enc _ _ _ => 0x9
  | .dec _ _ _ => 0xA

/-- The `N` field: a byte count, the CONST selector, or zero (30_encoding.md R74). -/
def Instr.nOperand : Instr → Nat
  | .add _ => 0
  | .sub _ => 0
  | .rotl _ => 0
  | .rotr _ => 0
  | .tole _ => 0
  | .fromle _ n => n
  | .const _ sel => sel.code
  | .expkey _ n _ => n
  | .enc _ n _ => n
  | .dec _ n _ => n

/-- The `R` field: the round count, or zero (30_encoding.md R75). -/
def Instr.rOperand : Instr → Nat
  | .add _ => 0
  | .sub _ => 0
  | .rotl _ => 0
  | .rotr _ => 0
  | .tole _ => 0
  | .fromle _ _ => 0
  | .const _ _ => 0
  | .expkey _ _ r => r
  | .enc _ _ r => r
  | .dec _ _ r => r

/-- The command word of a well-formed command (30_encoding.md R71, Table R83-a). -/
def encode (i : Instr) : BitVec 32 := packFields i.opcode i.width i.nOperand i.rOperand

/-- The command word as bytes, least significant byte first (20_memory.md R66). -/
def encodeBytes (i : Instr) : List Byte :=
  (List.range 4).map fun k => BitVec.ofNat 8 (slice (encode i) (8 * k + 7) (8 * k))

/-! ### The opcode map as the spec prints it -/

/-- A row of the opcode map: a word `c` matches it when `c &&& mask = code` (30_encoding.md R76). -/
structure OpcodeRow where
  mnemonic : String
  mask : BitVec 32
  code : BitVec 32
deriving DecidableEq, Repr

/-- The opcode map (30_encoding.md Table R76-a). -/
def opcodeMap : List OpcodeRow :=
  [ ⟨"ADD", 0xFFFFFF8F#32, 0x00000001#32⟩,
    ⟨"SUB", 0xFFFFFF8F#32, 0x00000002#32⟩,
    ⟨"ROTL", 0xFFFFFF8F#32, 0x00000003#32⟩,
    ⟨"ROTR", 0xFFFFFF8F#32, 0x00000004#32⟩,
    ⟨"TOLE", 0xFFFFFF8F#32, 0x00000005#32⟩,
    ⟨"FROMLE", 0xFFFF008F#32, 0x00000006#32⟩,
    ⟨"CONST", 0xFFFFFC8F#32, 0x00000007#32⟩,
    ⟨"EXPKEY", 0x0000008F#32, 0x00000008#32⟩,
    ⟨"ENC", 0x0000008F#32, 0x00000009#32⟩,
    ⟨"DEC", 0x0000008F#32, 0x0000000A#32⟩ ]

/-- A word matches a row of the map (30_encoding.md R76). -/
def OpcodeRow.fits (row : OpcodeRow) (c : BitVec 32) : Bool := c &&& row.mask == row.code

/-- The mnemonic of a command (30_encoding.md Table R73-a). -/
def Instr.mnemonic : Instr → String
  | .add _ => "ADD"
  | .sub _ => "SUB"
  | .rotl _ => "ROTL"
  | .rotr _ => "ROTR"
  | .tole _ => "TOLE"
  | .fromle _ _ => "FROMLE"
  | .const _ _ => "CONST"
  | .expkey _ _ _ => "EXPKEY"
  | .enc _ _ _ => "ENC"
  | .dec _ _ _ => "DEC"

end Sys2Proof
end

