-- ==== Sys2Proof/Machine/ByteLane.lean ====
section
/-!
DEFINITION. BYTELANE unit: TOLE, FROMLE and CONST (42_word_bytes_const.md).
-/

namespace Sys2Proof.Machine

/-- The `u` bytes of a Word, least significant first (42_word_bytes_const.md Pseudocode R120). -/
def toLeBytes (w : Width) (x : Carrier) : List Byte := (List.range w.bytes).map (byteOf x)

/-- The Word of the first `u` bytes of a buffer (42_word_bytes_const.md Pseudocode R121). -/
def fromLeBytes (w : Width) (buf : Memory 8) : Carrier :=
  BitVec.ofNat 128 ((List.range w.bytes).foldl (fun y k => y + (Memory.read buf k).toNat * 256 ^ k) 0)

/-- The constants of the Word contract (42_word_bytes_const.md Table R122-a). -/
def constWord (w : Width) : ConstSel → Carrier
  | .zero => 0
  | .bytes => BitVec.ofNat 128 w.bytes
  | .p => romP w
  | .q => romQ w

/-- EXEC of TOLE. -/
def tolePhase (w : Width) (s : State) : State :=
  answer (Response.bytes (toLeBytes w (portWord w s.RQ.X0))) s

/-- EXEC of FROMLE. -/
def fromlePhase (w : Width) (s : State) : State := answer (Response.word (fromLeBytes w s.RQ.BUF)) s

/-- EXEC of CONST. -/
def constPhase (w : Width) (sel : ConstSel) (s : State) : State := answer (Response.word (constWord w sel)) s

/-- TOLE (42_word_bytes_const.md R120). -/
def execTole (w : Width) (s : State) : Result := command (checkSingle w s.RQ) (tolePhase w) s

/-- FROMLE (42_word_bytes_const.md R121). -/
def execFromle (w : Width) (n : Nat) (s : State) : Result := command (checkString w n) (fromlePhase w) s

/-- CONST (42_word_bytes_const.md R122): it reads no port and cannot fail. -/
def execConst (w : Width) (sel : ConstSel) (s : State) : Result := command none (constPhase w sel) s

end Sys2Proof.Machine
end

