-- ==== Sys2Proof/Machine/Rotate.lean ====
section
/-!
DEFINITION. ROT unit: ROTL and ROTR (41_rotate.md).
-/

namespace Sys2Proof.Machine

/-- EXEC of ROTL (41_rotate.md Pseudocode R111). -/
def rotlPhase (w : Width) (s : State) : State :=
  answer (Response.word (rotl w (portWord w s.RQ.X0) (portWord w s.RQ.X1))) s

/-- EXEC of ROTR (41_rotate.md Pseudocode R112). -/
def rotrPhase (w : Width) (s : State) : State :=
  answer (Response.word (rotr w (portWord w s.RQ.X0) (portWord w s.RQ.X1))) s

/-- ROTL (41_rotate.md R111). -/
def execRotl (w : Width) (s : State) : Result := command (checkPair w s.RQ) (rotlPhase w) s

/-- ROTR (41_rotate.md R112). -/
def execRotr (w : Width) (s : State) : Result := command (checkPair w s.RQ) (rotrPhase w) s

end Sys2Proof.Machine
end

