-- ==== Sys2Proof/Machine/WordArith.lean ====
section
/-!
DEFINITION. ADDSUB unit: ADD and SUB (40_word_arith.md).
-/

namespace Sys2Proof.Machine

/-- EXEC of ADD (40_word_arith.md Pseudocode R100). -/
def addPhase (w : Width) (s : State) : State :=
  answer (Response.word (wadd w (portWord w s.RQ.X0) (portWord w s.RQ.X1))) s

/-- EXEC of SUB (40_word_arith.md Pseudocode R101). -/
def subPhase (w : Width) (s : State) : State :=
  answer (Response.word (wsub w (portWord w s.RQ.X0) (portWord w s.RQ.X1))) s

/-- ADD (40_word_arith.md R100). -/
def execAdd (w : Width) (s : State) : Result := command (checkPair w s.RQ) (addPhase w) s

/-- SUB (40_word_arith.md R101). -/
def execSub (w : Width) (s : State) : Result := command (checkPair w s.RQ) (subPhase w) s

end Sys2Proof.Machine
end

