-- ==== Sys2Proof/Machine/Dispatch.lean ====
section
/-! DEFINITION. The meaning of every command, one arm for each constructor of Instr. -/

namespace Sys2Proof.Machine

def exec (i : Instr) (s : State) : Host.Outcome State Fault Refusal :=
  match i with
  -- ADDSUB unit (40_word_arith.md)
  | .add w => Sys2Proof.Machine.execAdd w s
  | .sub w => Sys2Proof.Machine.execSub w s
  -- ROT unit (41_rotate.md)
  | .rotl w => Sys2Proof.Machine.execRotl w s
  | .rotr w => Sys2Proof.Machine.execRotr w s
  -- BYTELANE unit (42_word_bytes_const.md)
  | .tole w => Sys2Proof.Machine.execTole w s
  | .fromle w n => Sys2Proof.Machine.execFromle w n s
  | .const w sel => Sys2Proof.Machine.execConst w sel s
  -- KSX unit (43_key_schedule.md)
  | .expkey w n r => Sys2Proof.Machine.execExpkey w n r s
  -- BLK unit (44_block_transform.md)
  | .enc w n r => Sys2Proof.Machine.execEnc w n r s
  | .dec w n r => Sys2Proof.Machine.execDec w n r s

end Sys2Proof.Machine
end

