-- ==== Sys2Proof/Machine/Sequencer.lean ====
section
/-!
DEFINITION. The sequencer phase by phase (10_state.md R28, Table R28-a): the refinement of a whole command that
70_reset_and_hazards.md R215 speaks of. One move runs one iteration of a looping phase, or one whole phase that
does not loop; the move that leaves a phase runs the entry of the next one (log entry 8).
-/

namespace Sys2Proof.Machine

/-- The phases a command passes through, in order (10_state.md Table R28-a). -/
def phaseOrder : Instr → List Phase
  | .add _ => [.check, .exec, .finish]
  | .sub _ => [.check, .exec, .finish]
  | .rotl _ => [.check, .exec, .finish]
  | .rotr _ => [.check, .exec, .finish]
  | .tole _ => [.check, .exec, .finish]
  | .fromle _ _ => [.check, .exec, .finish]
  | .const _ _ => [.check, .exec, .finish]
  | .expkey _ _ _ => [.check, .pack, .init, .mix, .finish]
  | .enc _ _ _ => [.check, .pack, .init, .mix, .pre, .rounds, .finish]
  | .dec _ _ _ => [.check, .pack, .init, .mix, .rounds, .post, .finish]

/-- What CHECK tests once the word spells a command, in the order of 30_encoding.md R85. -/
def checkOf (i : Instr) (rq : Request) : Option Status :=
  match i with
  | .add w => checkPair w rq
  | .sub w => checkPair w rq
  | .rotl w => checkPair w rq
  | .rotr w => checkPair w rq
  | .tole w => checkSingle w rq
  | .fromle w n => checkString w n
  | .const _ _ => none
  | .expkey _ _ r => checkRounds r
  | .enc w _ r => checkBlock w r rq
  | .dec w _ r => checkBlock w r rq

/-- The phase after CHECK: EXEC of a Word-abstraction command, PACK of the others (Table R28-a). -/
def enterWork (i : Instr) (s : State) : State :=
  match i with
  | .add _ => s.setPH .exec
  | .sub _ => s.setPH .exec
  | .rotl _ => s.setPH .exec
  | .rotr _ => s.setPH .exec
  | .tole _ => s.setPH .exec
  | .fromle _ _ => s.setPH .exec
  | .const _ _ => s.setPH .exec
  | .expkey w n _ => enterPack w n s
  | .enc w n _ => enterPack w n s
  | .dec w n _ => enterPack w n s

/-- CHECK: to FINISH on an error, else on to the command's work (10_state.md R28, R36). -/
def checkMove (i : Instr) (s : State) : State :=
  match checkOf i s.RQ with
  | some e => reject e s
  | none => enterWork i (passCheck s)

/-- One move of PACK; with no key byte the phase is passed through (10_state.md R28). -/
def packMove (w : Width) (n : Nat) (s : State) : State :=
  if n = 0 then enterInit w s
  else if s.h.val = 0 then enterInit w (packIter w s)
  else packIter w s

/-- One move of INIT. -/
def initMove (w : Width) (r : Nat) (s : State) : State :=
  if s.i.val + 1 < tableSize r then initIter w r s else enterMix (initIter w r s)

/-- One move of MIX, which ends when `k = n`; `leave` is the entry of the phase after it. -/
def mixMove (w : Width) (n r : Nat) (leave : State → State) (s : State) : State :=
  if s.k.val + 1 < mixCount w n r then mixIter w n r s else leave (mixIter w n r s)

/-- One move of ROUNDS in ENC; with `r = 0` the phase is passed through. -/
def encMove (w : Width) (r : Nat) (s : State) : State :=
  if r = 0 then s.setPH .finish
  else if s.rnd.val < r then encRound w r s
  else (encRound w r s).setPH .finish

/-- One move of ROUNDS in DEC; with `r = 0` the phase is passed through. -/
def decMove (w : Width) (r : Nat) (s : State) : State :=
  if r = 0 then s.setPH .post
  else if 1 < s.rnd.val then decRound w s
  else (decRound w s).setPH .post

/-- The one move of a Word-abstraction command between CHECK and FINISH: its EXEC. -/
def execMove (work : State → State) (s : State) : Option State :=
  if s.PH = .exec then some (work s) else none

/-- The moves of EXPKEY between CHECK and FINISH. -/
def expkeyMove (w : Width) (n r : Nat) (s : State) : Option State :=
  match s.PH with
  | .pack => some (packMove w n s)
  | .init => some (initMove w r s)
  | .mix => some (mixMove w n r (fun t => t.setPH .finish) s)
  | _ => none

/-- The moves of ENC between CHECK and FINISH. -/
def encSequence (w : Width) (n r : Nat) (s : State) : Option State :=
  match s.PH with
  | .pack => some (packMove w n s)
  | .init => some (initMove w r s)
  | .mix => some (mixMove w n r (fun t => t.setPH .pre) s)
  | .pre => some (prePhase w s)
  | .rounds => some (encMove w r s)
  | _ => none

/-- The moves of DEC between CHECK and FINISH. -/
def decSequence (w : Width) (n r : Nat) (s : State) : Option State :=
  match s.PH with
  | .pack => some (packMove w n s)
  | .init => some (initMove w r s)
  | .mix => some (mixMove w n r (enterDecRounds w r) s)
  | .rounds => some (decMove w r s)
  | .post => some (postPhase w s)
  | _ => none

/-- The move of a command in a phase between CHECK and FINISH; none where the command has no such phase. -/
def workMove (i : Instr) (s : State) : Option State :=
  match i with
  | .add w => execMove (addPhase w) s
  | .sub w => execMove (subPhase w) s
  | .rotl w => execMove (rotlPhase w) s
  | .rotr w => execMove (rotrPhase w) s
  | .tole w => execMove (tolePhase w) s
  | .fromle w _ => execMove (fromlePhase w) s
  | .const w sel => execMove (constPhase w sel) s
  | .expkey w n r => expkeyMove w n r s
  | .enc w n r => encSequence w n r s
  | .dec w n r => decSequence w n r s

/-- The response builder of FINISH (10_state.md R28): EXPKEY returns its table, ENC and DEC their block; the
other commands have written their result in EXEC, and a failed command its status in CHECK. -/
def buildResponse (i : Instr) (s : State) : State :=
  if s.RSP.STATUS = .ok then
    match i with
    | .add _ => s
    | .sub _ => s
    | .rotl _ => s
    | .rotr _ => s
    | .tole _ => s
    | .fromle _ _ => s
    | .const _ _ => s
    | .expkey _ _ r => tableResponse r s
    | .enc _ _ _ => blockResponse s
    | .dec _ _ _ => blockResponse s
  else s

/-- One move of the sequencer of a BUSY engine. The command in flight is the one its latched command word
spells; a word that spells none is rejected in CHECK (30_encoding.md R77). -/
def tick (s : State) : Result :=
  match s.PH, decode s.RQ.CMD with
  | .check, .error _ => .next (reject .illegalCommand s)
  | .check, .ok i => .next (checkMove i s)
  | .finish, .error _ => .next (complete s)
  | .finish, .ok i => .next (complete (buildResponse i s))
  | p, .error _ => .fault (.strayPhase p)
  | p, .ok i =>
    match workMove i s with
    | some t => .next t
    | none => .fault (.strayPhase p)

/-- `count` moves of the sequencer, stopping at the first fault. -/
def ticks : Nat → State → Result
  | 0, s => .next s
  | count + 1, s =>
    match tick s with
    | .next t => ticks count t
    | .fault f => .fault f
    | .refused f => .refused f

/-- How many moves each phase of a command takes: its iterations (70_reset_and_hazards.md Table R221-a), and one
move for a phase that does not loop or whose loop runs zero times. -/
def phaseMoves (w : Width) (n r : Nat) : Phase → Nat
  | .pack => max 1 n
  | .init => tableSize r - 1
  | .mix => mixCount w n r
  | .rounds => max 1 r
  | _ => 1

/-- How many moves a command takes that passes CHECK. -/
def commandMoves (i : Instr) : Nat :=
  ((phaseOrder i).map (phaseMoves i.width i.nOperand i.rOperand)).sum

end Sys2Proof.Machine
end

