-- ==== Sys2Proof/Machine/Engine.lean ====
section
/-!
DEFINITION. The moves of the two agents (10_state.md R20): the engine's own move and the host's.
-/

namespace Sys2Proof.Machine

/-- The fetch and the run of a command: the latched command word is decoded and the whole command runs
(70_reset_and_hazards.md R215); a word that spells no command computes nothing, reads no data port and ends
with IllegalCommand (30_encoding.md R77). -/
def runCommand (s : State) : Result :=
  match decode s.RQ.CMD with
  | .error _ => .next (complete (reject .illegalCommand s))
  | .ok i => exec i s

/-- The engine's own move. At IDLE there is nothing to do until a request is presented. At CHECK the whole
command runs; a command already begun phase by phase goes on phase by phase (log entry 1). -/
def engineMove (s : State) : Result :=
  match s.ST with
  | .idle => .next s
  | .busy => if s.PH = .check then runCommand s else tick s

/-- One move of the sequencer; at IDLE there is none to make. -/
def phaseMove (s : State) : Result :=
  match s.ST with
  | .idle => .next s
  | .busy => tick s

/-- The move a turn of the agenda stands for. -/
def takeTurn (t : Turn) (s : State) : Result :=
  match t with
  | .present => .next (present s)
  | .drive rq => .next (s.setPorts rq)
  | .reset => .next (clearEngine s)
  | .engine => engineMove s
  | .phase => phaseMove s

/-- The machine's move: the next turn of the agenda, or the engine's own move when none is listed. -/
def nextMove (s : State) : Result :=
  match s.agenda with
  | [] => engineMove s
  | t :: rest => takeTurn t (s.setAgenda rest)

/-- A command word accepted and about to be run: it stands in the request latch, the engine is BUSY at CHECK,
and no turn of the agenda comes before the run (log entry 3). -/
def loadCommand (s : State) (c : BitVec 32) : State :=
  (((s.setRQ { s.RQ with CMD := c }).setST .busy).setPH .check).setAgenda []

end Sys2Proof.Machine
end

