-- ==== Sys2Proof/Machine/Assembler.lean ====
section
/-!
DEFINITION. The assembler forms, the request each produces, and how it is written (30_encoding.md R83, R84). The
machine never reads them.
-/

namespace Sys2Proof.Machine

/-- A command as it is written, one form for each row of 30_encoding.md Table R83-a; no form stands for another
command or for several (R84). -/
inductive AsmForm
  | add (w : Width) (a b : Carrier)
  | sub (w : Width) (a b : Carrier)
  | rotl (w : Width) (x amount : Carrier)
  | rotr (w : Width) (x amount : Carrier)
  | tole (w : Width) (x : Carrier)
  | fromle (w : Width) (bytes : List Byte)
  | const (w : Width) (sel : ConstSel)
  | expkey (w : Width) (r : Nat) (key : List Byte)
  | enc (w : Width) (r : Nat) (key : List Byte) (a0 b0 : Carrier)
  | dec (w : Width) (r : Nat) (key : List Byte) (a b : Carrier)
deriving DecidableEq, Repr

/-- The command of a form; a length is not written but counted. -/
def AsmForm.instr : AsmForm → Instr
  | .add w _ _ => .add w
  | .sub w _ _ => .sub w
  | .rotl w _ _ => .rotl w
  | .rotr w _ _ => .rotr w
  | .tole w _ => .tole w
  | .fromle w bytes => .fromle w bytes.length
  | .const w sel => .const w sel
  | .expkey w r key => .expkey w key.length r
  | .enc w r key _ _ => .enc w key.length r
  | .dec w r key _ _ => .dec w key.length r

/-- The Words of a form, in the order of the ports. -/
def AsmForm.words : AsmForm → List Carrier
  | .add _ a b => [a, b]
  | .sub _ a b => [a, b]
  | .rotl _ x amount => [x, amount]
  | .rotr _ x amount => [x, amount]
  | .tole _ x => [x]
  | .fromle _ _ => []
  | .const _ _ => []
  | .expkey _ _ _ => []
  | .enc _ _ _ a0 b0 => [a0, b0]
  | .dec _ _ _ a b => [a, b]

/-- The byte string of a form. -/
def AsmForm.bytes : AsmForm → List Byte
  | .add _ _ _ => []
  | .sub _ _ _ => []
  | .rotl _ _ _ => []
  | .rotr _ _ _ => []
  | .tole _ _ => []
  | .fromle _ bytes => bytes
  | .const _ _ => []
  | .expkey _ _ key => key
  | .enc _ _ key _ _ => key
  | .dec _ _ key _ _ => key

/-- The buffer that holds a byte string from index `a` on. -/
def bufferOf : Nat → List Byte → Memory 8
  | _, [] => []
  | a, b :: bs => Memory.write (bufferOf (a + 1) bs) a b

/-- The request of a form; a port it does not name is zero. -/
def AsmForm.request (f : AsmForm) : Request :=
  { CMD := encode f.instr, X0 := f.words.getD 0 0, X1 := f.words.getD 1 0, BUF := bufferOf 0 f.bytes }

/-! ### How a form and its outcome are written -/

/-- A hexadecimal digit. -/
def hexChar (d : Nat) : Char := if d < 10 then Char.ofNat (48 + d) else Char.ofNat (55 + d)

/-- `count` hexadecimal digits, the most significant first. -/
def hexDigits (count x : Nat) : List Char :=
  (List.range count).reverse.map fun k => hexChar (x / 16 ^ k % 16)

/-- A Word: `0x` and exactly `w/4` digits. -/
def wordText (w : Width) (x : Carrier) : List Char := ['0', 'x'] ++ hexDigits (w.bits / 4) x.toNat

/-- A byte string: two-digit bytes in brackets, byte 0 first. -/
def bytesText (bs : List Byte) : List Char :=
  ['['] ++ List.intercalate [' '] (bs.map fun b => hexDigits 2 b.toNat) ++ [']']

/-- Items separated by commas. -/
def commaText (items : List (List Char)) : List Char := List.intercalate [',', ' '] items

/-- A round count in decimal, and the key. -/
def roundsKeyText (r : Nat) (key : List Byte) : List (List Char) :=
  [['r', '='] ++ Nat.toDigits 10 r, ['k', 'e', 'y', '='] ++ bytesText key]

/-- The name of a constant. -/
def constText : ConstSel → List Char
  | .zero => ['Z', 'E', 'R', 'O']
  | .bytes => ['B', 'Y', 'T', 'E', 'S']
  | .p => ['P']
  | .q => ['Q']

/-- The operands of a form. -/
def AsmForm.operandsText (f : AsmForm) : List Char :=
  match f with
  | .add w a b => commaText [wordText w a, wordText w b]
  | .sub w a b => commaText [wordText w a, wordText w b]
  | .rotl w x amount => commaText [wordText w x, wordText w amount]
  | .rotr w x amount => commaText [wordText w x, wordText w amount]
  | .tole w x => wordText w x
  | .fromle _ bytes => bytesText bytes
  | .const _ sel => constText sel
  | .expkey _ r key => commaText (roundsKeyText r key)
  | .enc w r key a0 b0 => commaText (roundsKeyText r key ++ [wordText w a0, wordText w b0])
  | .dec w r key a b => commaText (roundsKeyText r key ++ [wordText w a, wordText w b])

/-- A form as it is written: `MNEMONIC.w operands`. -/
def AsmForm.text (f : AsmForm) : List Char :=
  f.instr.mnemonic.toList ++ ['.'] ++ Nat.toDigits 10 f.instr.width.bits ++ [' '] ++ f.operandsText

end Sys2Proof.Machine
end

