-- ==== Sys2Proof/Machine/Reference.lean ====
section
/-!
DEFINITION. Each command as one total function from request to response (00_scope.md R9, 70_reset_and_hazards.md
R215), with no state. It is written apart from the phases: the packed key and the initial table by their closed
forms (20_memory.md R55, 43_key_schedule.md R143), the mixing over plain lists with the indexes computed from the
iteration count. The statements compare the machine with it; the machine never calls it.
-/

namespace Sys2Proof.Machine.Reference

/-- `L[q]` after PACK: the sum of `BUF[h] * 256^(h mod u)` over the key bytes `h` with `h div u = q`
(20_memory.md R55). -/
def packedSum (w : Width) (n : Nat) (buf : Memory 8) (q : Nat) : Nat :=
  (((List.range n).filter fun h => h / w.bytes == q).map
    fun h => (Memory.read buf h).toNat * 256 ^ (h % w.bytes)).sum

/-- The packed key: `c` Words. -/
def packedKey (w : Width) (n : Nat) (buf : Memory 8) : List Carrier :=
  (List.range (keyWords w n)).map fun q => BitVec.ofNat 128 (packedSum w n buf q)

/-- The table after INIT: `S[i] = (P_w + i * Q_w) mod 2^w` (43_key_schedule.md R143). -/
def magicTable (w : Width) (r : Nat) : List Carrier :=
  (List.range (tableSize r)).map fun i => narrow w ((romP w).toNat + i * (romQ w).toNat)

/-- What the mixing loop works on (43_key_schedule.md R144). -/
structure Mixing where
  A : Carrier
  B : Carrier
  S : List Carrier
  L : List Carrier
deriving DecidableEq, Repr

/-- Iteration `k` of the mixing loop, at `i = k mod T` and `j = k mod c` (43_key_schedule.md R144). -/
def mixOnce (w : Width) (m : Mixing) (k : Nat) : Mixing :=
  let i := k % m.S.length
  let j := k % m.L.length
  let a := rotl w (wadd w (wadd w (m.S.getD i 0) m.A) m.B) 3
  let v := wadd w a m.B
  let b := rotl w (wadd w (m.L.getD j 0) v) v
  { A := a, B := b, S := m.S.set i a, L := m.L.set j b }

/-- `expand_key` (43_key_schedule.md R140). -/
def subkeys (w : Width) (n r : Nat) (buf : Memory 8) : List Carrier :=
  ((List.range (mixCount w n r)).foldl (mixOnce w)
    { A := 0, B := 0, S := magicTable w r, L := packedKey w n buf }).S

/-- `encrypt` with the table given (44_block_transform.md R160): the rounds 1 to `r`, ascending. -/
def encryptBlock (w : Width) (tbl : List Carrier) (r : Nat) (a0 b0 : Carrier) : Carrier × Carrier :=
  (List.range r).foldl
    (fun ab t =>
      let a := wadd w (rotl w (wxor ab.1 ab.2) ab.2) (tbl.getD (2 * (t + 1)) 0)
      let b := wadd w (rotl w (wxor ab.2 a) a) (tbl.getD (2 * (t + 1) + 1) 0)
      (a, b))
    (wadd w a0 (tbl.getD 0 0), wadd w b0 (tbl.getD 1 0))

/-- `decrypt` with the table given (44_block_transform.md R161): the rounds `r` to 1, descending. -/
def decryptBlock (w : Width) (tbl : List Carrier) (r : Nat) (a0 b0 : Carrier) : Carrier × Carrier :=
  let ab := (List.range r).foldr
    (fun t ab =>
      let b := wxor (rotr w (wsub w ab.2 (tbl.getD (2 * (t + 1) + 1) 0)) ab.1) ab.1
      let a := wxor (rotr w (wsub w ab.1 (tbl.getD (2 * (t + 1)) 0)) b) b
      (a, b))
    (a0, b0)
  (wsub w ab.1 (tbl.getD 0 0), wsub w ab.2 (tbl.getD 1 0))

/-- The response of a command that passes CHECK (30_encoding.md Table R82-a). -/
def result (i : Instr) (rq : Request) : Response :=
  match i with
  | .add w => Response.word (wadd w rq.X0 rq.X1)
  | .sub w => Response.word (wsub w rq.X0 rq.X1)
  | .rotl w => Response.word (rotl w rq.X0 rq.X1)
  | .rotr w => Response.word (rotr w rq.X0 rq.X1)
  | .tole w => Response.bytes (toLeBytes w rq.X0)
  | .fromle w _ => Response.word (fromLeBytes w rq.BUF)
  | .const w sel => Response.word (constWord w sel)
  | .expkey w n r => Response.table (subkeys w n r rq.BUF)
  | .enc w n r =>
    let ab := encryptBlock w (subkeys w n r rq.BUF) r rq.X0 rq.X1
    Response.block ab.1 ab.2
  | .dec w n r =>
    let ab := decryptBlock w (subkeys w n r rq.BUF) r rq.X0 rq.X1
    Response.block ab.1 ab.2

/-- The response to a request: IllegalCommand, the status of the first failing check, or the result
(00_scope.md R9, 30_encoding.md R85). -/
def respond (rq : Request) : Response :=
  match decode rq.CMD with
  | .error _ => Response.error .illegalCommand
  | .ok i =>
    match checkOf i rq with
    | some e => Response.error e
    | none => result i rq

end Sys2Proof.Machine.Reference
end

