-- ==== Sys2Proof/Safety.lean ====
section
/-!
DEFINITION. What counts as a safe run, in the terms the statements use: the quiet engine, the invariant of the
machine, and the state after a response.
-/

namespace Sys2Proof

/-- Which commands read the operand port `X0` (30_encoding.md Table R80-a). -/
def Instr.readsX0 : Instr → Bool
  | .add _ => true
  | .sub _ => true
  | .rotl _ => true
  | .rotr _ => true
  | .tole _ => true
  | .fromle _ _ => false
  | .const _ _ => false
  | .expkey _ _ _ => false
  | .enc _ _ _ => true
  | .dec _ _ _ => true

/-- Which commands read the operand port `X1` (30_encoding.md Table R80-a). -/
def Instr.readsX1 : Instr → Bool
  | .add _ => true
  | .sub _ => true
  | .rotl _ => true
  | .rotr _ => true
  | .tole _ => false
  | .fromle _ _ => false
  | .const _ _ => false
  | .expkey _ _ _ => false
  | .enc _ _ _ => true
  | .dec _ _ _ => true

/-- Which commands read the bytes `BUF[0..N-1]` (30_encoding.md Table R80-a). -/
def Instr.readsBuf : Instr → Bool
  | .add _ => false
  | .sub _ => false
  | .rotl _ => false
  | .rotr _ => false
  | .tole _ => false
  | .fromle _ _ => true
  | .const _ _ => false
  | .expkey _ _ _ => true
  | .enc _ _ _ => true
  | .dec _ _ _ => true

end Sys2Proof

namespace Sys2Proof.Machine

/-- A Word of width `w`: bits `127:w` are zero (00_scope.md R11). -/
abbrev IsWord (w : Width) (x : Carrier) : Prop := x.toNat < 2 ^ w.bits

/-- Every cell of a memory holds a Word of width `w` (00_scope.md R11). -/
abbrev Memory.Words (w : Width) (cells : Memory 128) : Prop := ∀ c ∈ cells, IsWord w c.2

/-- Every element of the engine is zero (10_state.md R33, Table R35-a). -/
abbrev State.Quiet (s : State) : Prop :=
  s.ST = .idle ∧ s.PH = .idle ∧ s.RQ = Request.zero ∧ s.A = 0 ∧ s.B = 0 ∧ s.i = 0 ∧ s.j = 0 ∧ s.k = 0 ∧
  s.h = 0 ∧ s.rnd = 0 ∧ s.L = [] ∧ s.S = [] ∧ s.RSP = Response.zero

/-- The state after a command that answered `rsp`: the engine quiet, the response delivered, the host's side
otherwise as it was (70_reset_and_hazards.md R216). -/
def State.afterResponse (s : State) (rsp : Response) : State :=
  { ST := .idle, PH := .idle, RQ := Request.zero, A := 0, B := 0, i := 0, j := 0, k := 0, h := 0, rnd := 0,
    L := [], S := [], RSP := Response.zero, ports := s.ports, agenda := s.agenda,
    responses := s.responses ++ [rsp] }

/-- A command has been accepted and CHECK comes next (70_reset_and_hazards.md R213). -/
abbrev State.AtCheck (s : State) : Prop := s.ST = .busy ∧ s.PH = .check

/-- The two working memories have the canonical form, each within its depth (20_memory.md Table R50-a). -/
abbrev State.MemoriesInForm (s : State) : Prop :=
  Memory.wf Config.keyDepth s.L ∧ Memory.wf Config.tableDepth s.S

/-- The operands of a command can be taken as what they stand for: every port it reads carries a Word of its
width, and the byte string of FROMLE has the length of a Word (30_encoding.md R81, 42_word_bytes_const.md R121). -/
abbrev OperandsFit (i : Instr) (rq : Request) : Prop :=
  (i.readsX0 = true → IsWord i.width rq.X0) ∧ (i.readsX1 = true → IsWord i.width rq.X1) ∧
  (i.opcode = 0x6 → i.nOperand = i.width.bytes)

/-- The counters are in the ranges of 10_state.md Table R24-a for a command of width `w` with key length `n`
and round count `r`. -/
abbrev State.CountersInRange (s : State) (w : Width) (n r : Nat) : Prop :=
  s.i.val < tableSize r ∧ s.j.val < keyWords w n ∧ s.k.val ≤ mixCount w n r ∧
  (s.PH = .mix → s.k.val < mixCount w n r) ∧ s.h.val < max 1 n ∧ s.rnd.val ≤ max 1 r

/-- The working elements hold Words of width `w`, and only the cells `L[0..c-1]` and `S[0..T-1]` are in use
(00_scope.md R11, 10_state.md R34). -/
abbrev State.WorkInRange (s : State) (w : Width) (n r : Nat) : Prop :=
  IsWord w s.A ∧ IsWord w s.B ∧ Memory.Words w s.L ∧ Memory.Words w s.S ∧
  Memory.wf (keyWords w n) s.L ∧ Memory.wf (tableSize r) s.S

/-- A command `i` in flight: the phase is one of its phases, and past CHECK its checks have passed, or one
failed and FINISH is next with the error's response (10_state.md R28, R36, 60_exceptions.md R186). -/
def State.InFlight (s : State) (i : Instr) : Prop :=
  s.PH ∈ phaseOrder i ∧
  ((s.PH = .check ∨ checkOf i s.RQ = none) ∧ s.RSP.STATUS = .ok ∨
    s.PH = .finish ∧ ∃ e, checkOf i s.RQ = some e ∧ s.RSP = Response.error e) ∧
  s.CountersInRange i.width i.nOperand i.rOperand ∧ s.WorkInRange i.width i.nOperand i.rOperand

/-- A BUSY engine: the command in flight is as above, or the latched word spells none and CHECK or FINISH with
IllegalCommand is next (30_encoding.md R77). -/
def State.Running (s : State) : Prop :=
  Memory.wf Config.bufDepth s.RQ.BUF ∧
  s.MemoriesInForm ∧
  match decode s.RQ.CMD with
  | .ok i => s.InFlight i
  | .error _ => s.PH = .check ∨ s.PH = .finish ∧ s.RSP = Response.error .illegalCommand

/-- The invariant of the machine: an idle engine is quiet (10_state.md R33), a busy one is running. -/
def State.Inv (s : State) : Prop :=
  match s.ST with
  | .idle => s.Quiet
  | .busy => s.Running

/-- The step answers a next state: no fault and no refusal. -/
def State.Goes (s : State) : Prop := ∃ t, step s = .next t

end Sys2Proof.Machine
end

