-- ==== Sys2Proof/Certificates/Slice0/Obligations.lean ====
section
/-!
DEFINITION. The statements for the provers, from the spec's numbered rules.
-/

open Sys2Proof Sys2Proof.Machine

/-! ### Reset, the host's moves and the run state -/

/-- 10_state.md R35: the reset value of every element of Table R35-a. The ROM is a constant of the model, which no
step writes; its literals are in ConstAnswersTheTable. That the list of delivered responses is empty is the model's
choice (log entry 4); Table R35-a says that none is pending. -/
def Obligations.ResetPutsEveryElementAtItsTableValue : Prop :=
  State.reset.ST = .idle ∧ State.reset.PH = .idle ∧ State.reset.RQ.CMD = 0x00000000#32 ∧
  State.reset.RQ.X0 = 0 ∧ State.reset.RQ.X1 = 0 ∧ (∀ a < 255, Memory.read State.reset.RQ.BUF a = 0) ∧
  State.reset.A = 0 ∧ State.reset.B = 0 ∧ State.reset.i = 0 ∧ State.reset.j = 0 ∧ State.reset.k = 0 ∧
  State.reset.h = 0 ∧ State.reset.rnd = 0 ∧ (∀ q < 255, Memory.read State.reset.L q = 0) ∧
  (∀ q < 512, Memory.read State.reset.S q = 0) ∧ State.reset.responses = []

/-- 70_reset_and_hazards.md R210: a reset at any time, BUSY or IDLE and in any phase, puts every element of the
engine to its reset value, delivers no response, and a request presented next is accepted. That it leaves the turns
to come and the host's ports as they were is the model's choice (log entries 2 and 5). -/
def Obligations.ResetClearsTheEngineAtAnyTime : Prop :=
  ∀ (s : State) (rest : List Turn), s.agenda = .reset :: rest →
    ∃ t, step s = .next t ∧ t.Quiet ∧ (∀ a, Memory.read t.RQ.BUF a = 0) ∧ (∀ q, Memory.read t.L q = 0) ∧
      (∀ q, Memory.read t.S q = 0) ∧ t.responses = s.responses ∧ t.ports = s.ports ∧ t.agenda = rest ∧
      ∀ more, rest = .present :: more →
        ∃ u, step t = .next u ∧ u.ST = .busy ∧ u.PH = .check ∧ u.RQ.CMD = s.ports.CMD

/-- 70_reset_and_hazards.md R213: a request is accepted only at IDLE, by one atomic copy of the ports into the
latch; presented while BUSY it is not accepted and changes nothing. That the present turn is then used up is the
model's inference (log entry 12). -/
def Obligations.RequestsAreAcceptedOnlyAtIdle : Prop :=
  ∀ (s : State) (rest : List Turn), s.agenda = .present :: rest →
    (s.ST = .idle → ∃ t, step s = .next t ∧
      t = { s with ST := .busy, PH := .check, RQ := t.RQ, agenda := rest } ∧
      t.RQ.CMD = s.ports.CMD ∧ t.RQ.X0 = s.ports.X0 ∧ t.RQ.X1 = s.ports.X1 ∧
      ∀ a < 255, Memory.read t.RQ.BUF a = Memory.read s.ports.BUF a) ∧
    (s.ST = .busy → step s = .next { s with agenda := rest })

/-- 70_reset_and_hazards.md R214: driving the ports changes the ports and nothing else, and whatever stands on
them while BUSY makes no difference to what the engine does, whether it runs the whole command or one move. -/
def Obligations.PortsHaveNoEffectOnACommandInFlight : Prop :=
  (∀ (s : State) (p : Request) (rest : List Turn), s.agenda = .drive p :: rest →
    step s = .next { s with ports := p, agenda := rest }) ∧
  ∀ (s t : State) (p : Request), s.ST = .busy →
    (s.agenda = [] ∨ (∃ rest, s.agenda = .engine :: rest) ∨ ∃ rest, s.agenda = .phase :: rest) →
    step s = .next t → step { s with ports := p } = .next { t with ports := p }

/-- 10_state.md R21: the run state becomes BUSY only when a request is accepted and IDLE only at completion, with
one response delivered, or by a reset, the working state cleared in both; a response is delivered at no other time;
no command reads it. -/
def Obligations.RunStateChangesOnlyAtAcceptanceAndCompletion : Prop :=
  (∀ s t : State, step s = .next t →
    (s.ST = .idle → t.ST = .busy → ∃ rest, s.agenda = .present :: rest) ∧
    (s.ST = .busy → t.ST = .idle → t.Quiet ∧
      ((∃ rest, s.agenda = .reset :: rest) ∨ ∃ rsp, t.responses = s.responses ++ [rsp])) ∧
    (t.responses = s.responses ∨
      s.ST = .busy ∧ t.ST = .idle ∧ ∃ rsp, t.responses = s.responses ++ [rsp])) ∧
  ∀ (i : Instr) (s : State) (v : RunState), exec i { s with ST := v } = exec i s

/-- The model's own convention (log entry 3): with no turn listed and no command in flight the machine waits. -/
def Obligations.AnIdleEngineWaitsForARequest : Prop :=
  ∀ s : State, s.ST = .idle → s.agenda = [] → step s = .next s

/-- When the latched word decodes to a command and CHECK is next, the step is that command's meaning; with an
engine turn listed, the turn is used up first. A phase turn, and past CHECK any move of the engine, is one move of
the sequencer (log entries 1 and 2 are the model's). -/
def Obligations.StepRunsTheDecodedCommand : Prop :=
  (∀ (s : State) (i : Instr), s.AtCheck → decode s.RQ.CMD = .ok i →
    (s.agenda = [] → step s = exec i s) ∧
    ∀ rest, s.agenda = .engine :: rest → step s = exec i { s with agenda := rest }) ∧
  ∀ s : State, s.ST = .busy →
    (∀ rest, s.agenda = .phase :: rest → step s = tick { s with agenda := rest }) ∧
    (s.PH ≠ .check → s.agenda = [] → step s = tick s) ∧
    (s.PH ≠ .check → ∀ rest, s.agenda = .engine :: rest → step s = tick { s with agenda := rest })

/-! ### Encoding -/

/-- Every well-formed command, at every width and every value of its count fields, decodes from its own word. -/
def Obligations.DecodingAnEncodedCommandGivesItBack : Prop :=
  ∀ i : Instr, i.wf = true → decode (encode i) = .ok i

/-- Every word that decodes is the word of a well-formed command: no bit of it is dropped. -/
def Obligations.EncodingADecodedWordGivesItBack : Prop :=
  ∀ (c : BitVec 32) (i : Instr), decode c = .ok i → i.wf = true ∧ encode i = c

/-- The words of 95_test_vectors.md section 2.7, one for each command, decode to what they stand for. -/
def Obligations.WordsWrittenOutDecodeAsTheSpecSays : Prop :=
  decode 0x00000001#32 = .ok (.add .w8) ∧ decode 0x00000012#32 = .ok (.sub .w16) ∧
  decode 0x00000023#32 = .ok (.rotl .w32) ∧ decode 0x00000034#32 = .ok (.rotr .w64) ∧
  decode 0x00000045#32 = .ok (.tole .w128) ∧ decode 0x00000836#32 = .ok (.fromle .w64 8) ∧
  decode 0x00000117#32 = .ok (.const .w16 .bytes) ∧ decode 0x000C1028#32 = .ok (.expkey .w32 16 12) ∧
  decode 0x001C2049#32 = .ok (.enc .w128 32 28) ∧ decode 0x00FFFF0A#32 = .ok (.dec .w8 255 255)

/-- 20_memory.md R66: a command word as bytes is given least significant byte first, both ways. -/
def Obligations.CommandWordsAreSerialisedLeastSignificantByteFirst : Prop :=
  (∀ (c : BitVec 32) (rest : List Byte),
    (∀ i, decode c = .ok i →
      decodeBytes (c.extractLsb' 0 8 :: c.extractLsb' 8 8 :: c.extractLsb' 16 8 :: c.extractLsb' 24 8 :: rest)
        = .ok (i, rest)) ∧
    (∀ e, decode c = .error e →
      decodeBytes (c.extractLsb' 0 8 :: c.extractLsb' 8 8 :: c.extractLsb' 16 8 :: c.extractLsb' 24 8 :: rest)
        = .error e)) ∧
  (∀ i : Instr, encodeBytes i =
    [(encode i).extractLsb' 0 8, (encode i).extractLsb' 8 8, (encode i).extractLsb' 16 8,
      (encode i).extractLsb' 24 8]) ∧
  encodeBytes (.enc .w32 16 12) = [0x29#8, 0x10#8, 0x0C#8, 0x00#8]

/-- 30_encoding.md R76: a word spells a command exactly when it matches a row of the opcode map and its `WSEL` is
0 to 4, and the command is that row's. -/
def Obligations.LegalWordsMatchARowOfTheOpcodeMap : Prop :=
  ∀ c : BitVec 32,
    ((∃ i, decode c = .ok i) ↔
      (∃ row ∈ opcodeMap, c &&& row.mask = row.code) ∧ (c.extractLsb' 4 3).toNat ≤ 4) ∧
    ∀ i, decode c = .ok i → ∀ row ∈ opcodeMap, c &&& row.mask = row.code → row.mnemonic = i.mnemonic

/-- 30_encoding.md R77: a word is illegal exactly when it matches no row or its `WSEL` is 5, 6 or 7; the illegal words
are exactly those listed; and one of them in the latch at CHECK answers IllegalCommand with every other field zero
or empty, whatever the ports hold. -/
def Obligations.IllegalWordsAreTheListedOnesAndComputeNothing : Prop :=
  (∀ c : BitVec 32, (∃ e, decode c = .error e) ↔
    (∀ row ∈ opcodeMap, c &&& row.mask ≠ row.code) ∨ (c.extractLsb' 4 3).toNat ∈ [5, 6, 7]) ∧
  (∀ c : BitVec 32, (∃ e, decode c = .error e) ↔
    c.getLsbD 7 = true ∨ 5 ≤ (c.extractLsb' 4 3).toNat ∨
    (c.extractLsb' 0 4).toNat = 0x0 ∨ 0xB ≤ (c.extractLsb' 0 4).toNat ∨
    ((c.extractLsb' 0 4).toNat ∈ [0x1, 0x2, 0x3, 0x4, 0x5] ∧ c.extractLsb' 8 8 ≠ 0#8) ∨
    ((c.extractLsb' 0 4).toNat = 0x7 ∧ 4 ≤ (c.extractLsb' 8 8).toNat) ∨
    ((c.extractLsb' 0 4).toNat ∉ [0x8, 0x9, 0xA] ∧ c.extractLsb' 16 16 ≠ 0#16)) ∧
  ∀ (s : State) (e : Reject), s.AtCheck → s.agenda = [] → decode s.RQ.CMD = .error e →
    step s = .next (s.afterResponse { STATUS := .illegalCommand, Y0 := 0, Y1 := 0, OB := [], TBL := [] })

/-- 30_encoding.md Table R83-a: each assembler form produces the command word of its row, with the Words and the bytes
it names on the ports and every other port zero. -/
def Obligations.AssemblerFormsProduceTheirRequests : Prop :=
  ∀ f : AsmForm, f.instr.wf = true →
    decode f.request.CMD = .ok f.instr ∧
    (∀ h, Memory.read f.request.BUF h = f.bytes.getD h 0) ∧ Memory.wf 255 f.request.BUF ∧
    (f.instr.readsX0 = false → f.request.X0 = 0) ∧ (f.instr.readsX1 = false → f.request.X1 = 0) ∧
    (f.instr.readsBuf = false → f.request.BUF = []) ∧
    match f with
    | .add _ a b => f.request.X0 = a ∧ f.request.X1 = b
    | .sub _ a b => f.request.X0 = a ∧ f.request.X1 = b
    | .rotl _ x amount => f.request.X0 = x ∧ f.request.X1 = amount
    | .rotr _ x amount => f.request.X0 = x ∧ f.request.X1 = amount
    | .tole _ x => f.request.X0 = x
    | .fromle _ bytes => f.instr.nOperand = bytes.length
    | .const _ sel => f.instr.nOperand = sel.code
    | .expkey _ r key => f.instr.nOperand = key.length ∧ f.instr.rOperand = r
    | .enc _ r key a0 b0 =>
      f.instr.nOperand = key.length ∧ f.instr.rOperand = r ∧ f.request.X0 = a0 ∧ f.request.X1 = b0
    | .dec _ r key a b =>
      f.instr.nOperand = key.length ∧ f.instr.rOperand = r ∧ f.request.X0 = a ∧ f.request.X1 = b

/-! ### Errors -/

/-- 30_encoding.md R85 and 60_exceptions.md R185: every word with every port content is decided, and the first
failing check in the order IllegalCommand, ConversionError, BadLength decides the status, with no partial work in
the response; only when all pass is there a result. -/
def Obligations.TheFirstFailingCheckDecidesTheStatus : Prop :=
  ∀ s : State, s.AtCheck → s.agenda = [] →
    ∃ rsp, step s = .next (s.afterResponse rsp) ∧
      (∀ e, decode s.RQ.CMD = .error e →
        rsp = { STATUS := .illegalCommand, Y0 := 0, Y1 := 0, OB := [], TBL := [] }) ∧
      ∀ i, decode s.RQ.CMD = .ok i →
        (¬ OperandsFit i s.RQ →
          rsp = { STATUS := .conversionError, Y0 := 0, Y1 := 0, OB := [], TBL := [] }) ∧
        (OperandsFit i s.RQ → 255 < i.rOperand →
          rsp = { STATUS := .badLength, Y0 := 0, Y1 := 0, OB := [], TBL := [] }) ∧
        (OperandsFit i s.RQ → i.rOperand ≤ 255 → rsp.STATUS = .ok)

/-- 60_exceptions.md R182: ConversionError is raised exactly by FROMLE with a byte count other than `u` and by a
command that reads a port whose value is not a Word of its width; EXPKEY and CONST never raise it. -/
def Obligations.ConversionErrorIsRaisedInExactlyTwoSituations : Prop :=
  ∀ (i : Instr) (s : State), ∃ rsp, exec i s = .next (s.afterResponse rsp) ∧
    (rsp.STATUS = .conversionError ↔
      (∃ w n, i = .fromle w n ∧ n ≠ w.bytes) ∨
      (∃ w, (i = .add w ∨ i = .sub w ∨ i = .rotl w ∨ i = .rotr w ∨ ∃ n r, i = .enc w n r ∨ i = .dec w n r) ∧
        (s.RQ.X0 >>> w.bits ≠ 0 ∨ s.RQ.X1 >>> w.bits ≠ 0)) ∨
      ∃ w, i = .tole w ∧ s.RQ.X0 >>> w.bits ≠ 0)

/-- 60_exceptions.md R181, with the priority of R185: BadLength is raised by EXPKEY, ENC and DEC and by no other
command, exactly when the round count is above 255, so that the table cannot be held, and no operand fails first;
the table size is always even and at least 2. -/
def Obligations.BadLengthIsRaisedExactlyByTooManyRounds : Prop :=
  (∀ r : Nat, tableSize r % 2 = 0 ∧ 2 ≤ tableSize r ∧ (255 < r ↔ 512 < tableSize r)) ∧
  ∀ (i : Instr) (s : State), ∃ rsp, exec i s = .next (s.afterResponse rsp) ∧
    (rsp.STATUS = .badLength ↔
      ∃ w n r, 255 < r ∧
        (i = .expkey w n r ∨ (i = .enc w n r ∨ i = .dec w n r) ∧ IsWord w s.RQ.X0 ∧ IsWord w s.RQ.X1))

/-- 60_exceptions.md R197: with operands that fit and a round count the table can hold, every command completes
with STATUS OK whatever the values are. -/
def Obligations.NoArithmeticConditionIsAnError : Prop :=
  ∀ (i : Instr) (s : State), OperandsFit i s.RQ →
    (∀ w n r, i = .expkey w n r ∨ i = .enc w n r ∨ i = .dec w n r → r ≤ 255) →
    ∃ rsp, exec i s = .next (s.afterResponse rsp) ∧ rsp.STATUS = .ok

/-- 60_exceptions.md R186: a failing check sends the sequencer from CHECK to FINISH and touches nothing but the
response, which is the status code alone; the next move delivers it and leaves the engine quiet; the whole
command answers the same. -/
def Obligations.AnErrorEndsTheCommandWithItsStatusAlone : Prop :=
  ∀ (s : State) (e : Status), s.AtCheck →
    ((∃ x, decode s.RQ.CMD = .error x) ∧ e = .illegalCommand ∨
      ∃ i, decode s.RQ.CMD = .ok i ∧ checkOf i s.RQ = some e) →
    ∃ t, tick s = .next t ∧
      t = { s with PH := .finish, RSP := { STATUS := e, Y0 := 0, Y1 := 0, OB := [], TBL := [] } } ∧
      tick t = .next (s.afterResponse { STATUS := e, Y0 := 0, Y1 := 0, OB := [], TBL := [] }) ∧
      (s.agenda = [] →
        step s = .next (s.afterResponse { STATUS := e, Y0 := 0, Y1 := 0, OB := [], TBL := [] }))

/-- 70_reset_and_hazards.md R216: completion is one event, on success and on error alike, as a whole command and
as the FINISH move: one response is delivered (the one being built), the whole engine is zero and idle, and the
host's side is otherwise as it was. This is the frame of every command. -/
def Obligations.EveryCommandEndsQuietAndDeliversOneResponse : Prop :=
  (∀ (i : Instr) (s : State), ∃ t rsp, exec i s = .next t ∧ t.Quiet ∧
    (∀ a, Memory.read t.RQ.BUF a = 0) ∧ (∀ q, Memory.read t.L q = 0) ∧ (∀ q, Memory.read t.S q = 0) ∧
    t.responses = s.responses ++ [rsp] ∧ t.ports = s.ports ∧ t.agenda = s.agenda) ∧
  ∀ s : State, s.PH = .finish → ∃ t rsp, tick s = .next t ∧ t.Quiet ∧
    (∀ a, Memory.read t.RQ.BUF a = 0) ∧ (∀ q, Memory.read t.L q = 0) ∧ (∀ q, Memory.read t.S q = 0) ∧
    t.responses = s.responses ++ [rsp] ∧ t.ports = s.ports ∧ t.agenda = s.agenda ∧
    (s.RSP.STATUS ≠ .ok → rsp = s.RSP) ∧
    ∀ i, decode s.RQ.CMD = .ok i → rsp = (buildResponse i s).RSP

/-- 60_exceptions.md Table R184-a: the statuses a command can end with; none ends with IllegalCommand. -/
def Obligations.EachCommandEndsWithAStatusOfItsRow : Prop :=
  ∀ (i : Instr) (s : State), ∃ rsp, exec i s = .next (s.afterResponse rsp) ∧
    rsp.STATUS ∈ (match i with
      | .add _ => [.ok, .conversionError]
      | .sub _ => [.ok, .conversionError]
      | .rotl _ => [.ok, .conversionError]
      | .rotr _ => [.ok, .conversionError]
      | .tole _ => [.ok, .conversionError]
      | .fromle _ _ => [.ok, .conversionError]
      | .const _ _ => [.ok]
      | .expkey _ _ _ => [.ok, .badLength]
      | .enc _ _ _ => [.ok, .badLength, .conversionError]
      | .dec _ _ _ => [.ok, .badLength, .conversionError] : List Status)

/-- 30_encoding.md Table R82-a and 10_state.md Table R29-a: on success each command fills the fields of its row
with Words of its width and leaves the others zero or empty. -/
def Obligations.EachCommandFillsTheResponseFieldsOfItsRow : Prop :=
  ∀ (i : Instr) (s : State), i.wf = true → s.MemoriesInForm →
    ∃ rsp, exec i s = .next (s.afterResponse rsp) ∧ (rsp.STATUS = .ok →
      IsWord i.width rsp.Y0 ∧ IsWord i.width rsp.Y1 ∧ (∀ y ∈ rsp.TBL, IsWord i.width y) ∧
      match i with
      | .add _ => rsp.Y1 = 0 ∧ rsp.OB = [] ∧ rsp.TBL = []
      | .sub _ => rsp.Y1 = 0 ∧ rsp.OB = [] ∧ rsp.TBL = []
      | .rotl _ => rsp.Y1 = 0 ∧ rsp.OB = [] ∧ rsp.TBL = []
      | .rotr _ => rsp.Y1 = 0 ∧ rsp.OB = [] ∧ rsp.TBL = []
      | .tole w => rsp.Y0 = 0 ∧ rsp.Y1 = 0 ∧ rsp.OB.length = w.bytes ∧ rsp.TBL = []
      | .fromle _ _ => rsp.Y1 = 0 ∧ rsp.OB = [] ∧ rsp.TBL = []
      | .const _ _ => rsp.Y1 = 0 ∧ rsp.OB = [] ∧ rsp.TBL = []
      | .expkey _ _ r => rsp.Y0 = 0 ∧ rsp.Y1 = 0 ∧ rsp.OB = [] ∧ rsp.TBL.length = 2 * (r + 1)
      | .enc _ _ _ => rsp.OB = [] ∧ rsp.TBL = []
      | .dec _ _ _ => rsp.OB = [] ∧ rsp.TBL = [])

/-! ### ADD and SUB -/

/-- 40_word_arith.md R100: ADD. The word of the command, the sum modulo `2^w` when both ports carry Words, and
ConversionError when one does not; nothing depends on the values otherwise. -/
def Obligations.AddAnswersTheSumModuloTwoToTheWidth : Prop :=
  ∀ (w : Width) (s : State),
    (∀ c, decode c = .ok (.add w) ↔ c = BitVec.ofNat 32 (0x1 + 16 * w.sel)) ∧
    (IsWord w s.RQ.X0 → IsWord w s.RQ.X1 → exec (.add w) s = .next (s.afterResponse
      { STATUS := .ok, Y0 := BitVec.ofNat 128 ((s.RQ.X0.toNat + s.RQ.X1.toNat) % 2 ^ w.bits), Y1 := 0,
        OB := [], TBL := [] })) ∧
    (¬ (IsWord w s.RQ.X0 ∧ IsWord w s.RQ.X1) → exec (.add w) s = .next (s.afterResponse
      { STATUS := .conversionError, Y0 := 0, Y1 := 0, OB := [], TBL := [] }))

/-- 40_word_arith.md R101: SUB. The word of the command, the difference modulo `2^w` when both ports carry Words
(`a - b`, or `a - b + 2^w` when `a < b`), and ConversionError when one does not. -/
def Obligations.SubAnswersTheDifferenceModuloTwoToTheWidth : Prop :=
  ∀ (w : Width) (s : State),
    (∀ c, decode c = .ok (.sub w) ↔ c = BitVec.ofNat 32 (0x2 + 16 * w.sel)) ∧
    (IsWord w s.RQ.X0 → IsWord w s.RQ.X1 → exec (.sub w) s = .next (s.afterResponse
      { STATUS := .ok,
        Y0 := BitVec.ofNat 128
          (if s.RQ.X1.toNat ≤ s.RQ.X0.toNat then s.RQ.X0.toNat - s.RQ.X1.toNat
            else s.RQ.X0.toNat + 2 ^ w.bits - s.RQ.X1.toNat),
        Y1 := 0, OB := [], TBL := [] })) ∧
    (¬ (IsWord w s.RQ.X0 ∧ IsWord w s.RQ.X1) → exec (.sub w) s = .next (s.afterResponse
      { STATUS := .conversionError, Y0 := 0, Y1 := 0, OB := [], TBL := [] }))

/-- 40_word_arith.md R102: subtraction is the exact inverse of addition, either way round. -/
def Obligations.SubtractionIsTheInverseOfAddition : Prop :=
  ∀ (w : Width) (a b : Carrier), IsWord w a → IsWord w b →
    wsub w (wadd w a b) b = a ∧ wadd w (wsub w a b) b = a ∧ wadd w a b = wadd w b a ∧
    IsWord w (wadd w a b) ∧ IsWord w (wsub w a b)

/-! ### ROTL and ROTR -/

/-- 41_rotate.md R110 and R111: ROTL moves bit `b` of `X0` to bit `(b + m) mod w`, `m` being the amount Word
reduced modulo `w`; a port that is no Word of the width gives ConversionError. The direction is PRESUMED (log
entry 7). -/
def Obligations.RotlMovesEveryBitTowardTheTop : Prop :=
  ∀ (w : Width) (s : State),
    (∀ c, decode c = .ok (.rotl w) ↔ c = BitVec.ofNat 32 (0x3 + 16 * w.sel)) ∧
    (IsWord w s.RQ.X0 → IsWord w s.RQ.X1 → ∃ y, exec (.rotl w) s = .next (s.afterResponse
        { STATUS := .ok, Y0 := y, Y1 := 0, OB := [], TBL := [] }) ∧
      IsWord w y ∧
      ∀ b < w.bits, y.getLsbD ((b + s.RQ.X1.toNat % w.bits) % w.bits) = s.RQ.X0.getLsbD b) ∧
    (¬ (IsWord w s.RQ.X0 ∧ IsWord w s.RQ.X1) → exec (.rotl w) s = .next (s.afterResponse
      { STATUS := .conversionError, Y0 := 0, Y1 := 0, OB := [], TBL := [] }))

/-- 41_rotate.md R110 and R112: ROTR moves bit `b` of `X0` to bit `(b - m) mod w`. The direction is PRESUMED (log
entry 7). -/
def Obligations.RotrMovesEveryBitTowardTheBottom : Prop :=
  ∀ (w : Width) (s : State),
    (∀ c, decode c = .ok (.rotr w) ↔ c = BitVec.ofNat 32 (0x4 + 16 * w.sel)) ∧
    (IsWord w s.RQ.X0 → IsWord w s.RQ.X1 → ∃ y, exec (.rotr w) s = .next (s.afterResponse
        { STATUS := .ok, Y0 := y, Y1 := 0, OB := [], TBL := [] }) ∧
      IsWord w y ∧
      ∀ b < w.bits, y.getLsbD ((b + w.bits - s.RQ.X1.toNat % w.bits) % w.bits) = s.RQ.X0.getLsbD b) ∧
    (¬ (IsWord w s.RQ.X0 ∧ IsWord w s.RQ.X1) → exec (.rotr w) s = .next (s.afterResponse
      { STATUS := .conversionError, Y0 := 0, Y1 := 0, OB := [], TBL := [] }))

/-- 41_rotate.md R113: the two rotations undo each other, a multiple of `w` rotates by nothing, amounts equal
modulo `w` rotate alike, and (R112) a right rotation is the left rotation by the rest of the width. -/
def Obligations.RotationsUndoEachOtherAndReduceTheirAmount : Prop :=
  ∀ (w : Width) (x s : Carrier), IsWord w x → IsWord w s →
    rotr w (rotl w x s) s = x ∧ rotl w (rotr w x s) s = x ∧
    (w.bits ∣ s.toNat → rotl w x s = x ∧ rotr w x s = x) ∧
    (∀ s', s.toNat % w.bits = s'.toNat % w.bits → rotl w x s = rotl w x s' ∧ rotr w x s = rotr w x s') ∧
    rotr w x s = rotl w x (BitVec.ofNat 128 (w.bits - s.toNat % w.bits))

/-- 41_rotate.md R113: a rotation never changes the number of one bits. -/
def Obligations.RotationsKeepTheNumberOfOneBits : Prop :=
  ∀ (w : Width) (x s : Carrier), IsWord w x →
    (Finset.univ.filter fun b : Fin 128 => (rotl w x s).getLsbD b = true).card
      = (Finset.univ.filter fun b : Fin 128 => x.getLsbD b = true).card ∧
    (Finset.univ.filter fun b : Fin 128 => (rotr w x s).getLsbD b = true).card
      = (Finset.univ.filter fun b : Fin 128 => x.getLsbD b = true).card

/-! ### TOLE, FROMLE and CONST -/

/-- 42_word_bytes_const.md R120: TOLE answers the `u` bytes of `X0`, least significant first; `X0` being no Word of
the width gives ConversionError. -/
def Obligations.ToleAnswersTheBytesLeastSignificantFirst : Prop :=
  ∀ (w : Width) (s : State),
    (∀ c, decode c = .ok (.tole w) ↔ c = BitVec.ofNat 32 (0x5 + 16 * w.sel)) ∧
    (IsWord w s.RQ.X0 → exec (.tole w) s = .next (s.afterResponse
      { STATUS := .ok, Y0 := 0, Y1 := 0,
        OB := (List.range w.bytes).map fun k => s.RQ.X0.extractLsb' (8 * k) 8, TBL := [] })) ∧
    (¬ IsWord w s.RQ.X0 → exec (.tole w) s = .next (s.afterResponse
      { STATUS := .conversionError, Y0 := 0, Y1 := 0, OB := [], TBL := [] }))

/-- 42_word_bytes_const.md R121: FROMLE answers the Word whose byte lane `k` is `BUF[k]` when `N = u`, and
ConversionError when it is not. -/
def Obligations.FromleAnswersTheWordOfTheBytes : Prop :=
  ∀ (w : Width) (n : Nat) (s : State),
    (∀ c, decode c = .ok (.fromle w n) ↔ n < 256 ∧ c = BitVec.ofNat 32 (0x6 + 16 * w.sel + 256 * n)) ∧
    (n = w.bytes → ∃ y, exec (.fromle w n) s = .next (s.afterResponse
        { STATUS := .ok, Y0 := y, Y1 := 0, OB := [], TBL := [] }) ∧
      IsWord w y ∧ y.toNat = ∑ k ∈ Finset.range w.bytes, (Memory.read s.RQ.BUF k).toNat * 256 ^ k ∧
      ∀ k < w.bytes, y.extractLsb' (8 * k) 8 = Memory.read s.RQ.BUF k) ∧
    (n ≠ w.bytes → exec (.fromle w n) s = .next (s.afterResponse
      { STATUS := .conversionError, Y0 := 0, Y1 := 0, OB := [], TBL := [] }))

/-- 42_word_bytes_const.md R123: FROMLE of the string TOLE gives for a Word returns the Word, TOLE of the Word
FROMLE gives for a string returns the string, and PACK of a key of `u` bytes leaves the FROMLE of those bytes in
`L[0]`. -/
def Obligations.ToleAndFromleUndoEachOther : Prop :=
  (∀ (w : Width) (s t : State), IsWord w s.RQ.X0 →
    ∃ ob : List Byte, exec (.tole w) s = .next (s.afterResponse
        { STATUS := .ok, Y0 := 0, Y1 := 0, OB := ob, TBL := [] }) ∧ ob.length = w.bytes ∧
      ((∀ k < w.bytes, Memory.read t.RQ.BUF k = ob.getD k 0) →
        exec (.fromle w w.bytes) t = .next (t.afterResponse
          { STATUS := .ok, Y0 := s.RQ.X0, Y1 := 0, OB := [], TBL := [] }))) ∧
  (∀ (w : Width) (s t : State),
    ∃ y : Carrier, exec (.fromle w w.bytes) s = .next (s.afterResponse
        { STATUS := .ok, Y0 := y, Y1 := 0, OB := [], TBL := [] }) ∧
      (t.RQ.X0 = y → exec (.tole w) t = .next (t.afterResponse
        { STATUS := .ok, Y0 := 0, Y1 := 0,
          OB := (List.range w.bytes).map fun k => Memory.read s.RQ.BUF k, TBL := [] })) ∧
      (s.MemoriesInForm → Memory.read (packPhase w w.bytes s).L 0 = y))

/-- 42_word_bytes_const.md R122: CONST answers the constant of Table R122-a, whatever the ports hold; a selector
of 4 or more is an illegal word. The literals of `P_w` and `Q_w` are PRESUMED (log entry 6). -/
def Obligations.ConstAnswersTheTable : Prop :=
  (∀ (w : Width) (sel : ConstSel) (s : State),
    (∀ c, decode c = .ok (.const w sel) ↔ c = BitVec.ofNat 32 (0x7 + 16 * w.sel + 256 * sel.code)) ∧
    exec (.const w sel) s = .next (s.afterResponse
      { STATUS := .ok,
        Y0 := (match sel, w with
          | .zero, _ => 0x0#128
          | .bytes, .w8 => 0x01#128
          | .bytes, .w16 => 0x0002#128
          | .bytes, .w32 => 0x00000004#128
          | .bytes, .w64 => 0x0000000000000008#128
          | .bytes, .w128 => 0x00000000000000000000000000000010#128
          | .p, .w8 => 0xB7#128
          | .p, .w16 => 0xB7E1#128
          | .p, .w32 => 0xB7E15163#128
          | .p, .w64 => 0xB7E151628AED2A6B#128
          | .p, .w128 => 0xB7E151628AED2A6ABF7158809CF4F3C7#128
          | .q, .w8 => 0x9F#128
          | .q, .w16 => 0x9E37#128
          | .q, .w32 => 0x9E3779B9#128
          | .q, .w64 => 0x9E3779B97F4A7C15#128
          | .q, .w128 => 0x9E3779B97F4A7C15F39CC0605CEDC835#128),
        Y1 := 0, OB := [], TBL := [] })) ∧
  ∀ (w : Width) (n : Nat), 4 ≤ n → n < 256 →
    ∃ e, decode (BitVec.ofNat 32 (0x7 + 16 * w.sel + 256 * n)) = .error e

/-! ### The key schedule -/

/-- 20_memory.md R55 (the result of PACK, 43_key_schedule.md R142): after PACK `L[q]` is the sum of the bytes `h`
with `h div u = q`, each at byte lane `h mod u`; only `L[0..c-1]`, `h` and the phase are written. -/
def Obligations.PackLaysTheKeyBytesLittleEndian : Prop :=
  ∀ (w : Width) (n : Nat) (s : State), n ≤ 255 → s.MemoriesInForm →
    (∀ q < keyWords w n, (Memory.read (packPhase w n s).L q).toNat = Reference.packedSum w n s.RQ.BUF q) ∧
    (∀ h < n, (Memory.read (packPhase w n s).L (h / w.bytes)).extractLsb' (8 * (h % w.bytes)) 8
      = Memory.read s.RQ.BUF h) ∧
    (∀ q, keyWords w n ≤ q → Memory.read (packPhase w n s).L q = Memory.read s.L q) ∧
    packPhase w n s = { s with L := (packPhase w n s).L, h := (packPhase w n s).h, PH := .pack } ∧
    (n = 0 → Memory.read (packPhase w n s).L 0 = 0)

/-- 43_key_schedule.md R143: after INIT `S[0] = P_w` and `S[i] = S[i-1] + Q_w` for `i` from 1 to `T - 1`, so
`S[i] = (P_w + i * Q_w) mod 2^w`, whatever the key is; only `S[0..T-1]`, `i` and the phase are written. -/
def Obligations.InitFillsTheTableFromTheMagicConstants : Prop :=
  ∀ (w : Width) (r : Nat) (s : State), r ≤ 255 → s.MemoriesInForm →
    Memory.read (initPhase w r s).S 0 = romP w ∧
    (∀ i < tableSize r, 1 ≤ i → (Memory.read (initPhase w r s).S i).toNat
      = ((Memory.read (initPhase w r s).S (i - 1)).toNat + (romQ w).toNat) % 2 ^ w.bits) ∧
    (∀ i < tableSize r, (Memory.read (initPhase w r s).S i).toNat
      = ((romP w).toNat + i * (romQ w).toNat) % 2 ^ w.bits) ∧
    (∀ i, tableSize r ≤ i → Memory.read (initPhase w r s).S i = Memory.read s.S i) ∧
    initPhase w r s = { s with S := (initPhase w r s).S, i := (initPhase w r s).i, PH := .init }

/-- 43_key_schedule.md R144: one iteration of MIX. The new `S[i]` is `A`; the new `L[j]` is `B`, made with the new
`A` and the old `B` as addend and as amount; the indexes advance each at its own length; every other cell and
register is as it was. -/
def Obligations.OneMixIterationRunsTheFiveStatementsInOrder : Prop :=
  ∀ (w : Width) (n r : Nat) (s : State), n ≤ 255 → r ≤ 255 → s.MemoriesInForm →
    s.i.val < tableSize r → s.j.val < keyWords w n → s.k.val < mixCount w n r →
    ∃ a v b : Carrier,
      a = rotl w (BitVec.ofNat 128
        (((Memory.read s.S s.i.val).toNat + s.A.toNat + s.B.toNat) % 2 ^ w.bits)) 3 ∧
      v = BitVec.ofNat 128 ((a.toNat + s.B.toNat) % 2 ^ w.bits) ∧
      b = rotl w (BitVec.ofNat 128 (((Memory.read s.L s.j.val).toNat + v.toNat) % 2 ^ w.bits)) v ∧
      (mixIter w n r s).A = a ∧ (mixIter w n r s).B = b ∧
      (∀ q, Memory.read (mixIter w n r s).S q = if q = s.i.val then a else Memory.read s.S q) ∧
      (∀ q, Memory.read (mixIter w n r s).L q = if q = s.j.val then b else Memory.read s.L q) ∧
      (mixIter w n r s).i.val = (s.i.val + 1) % tableSize r ∧
      (mixIter w n r s).j.val = (s.j.val + 1) % keyWords w n ∧
      (mixIter w n r s).k.val = s.k.val + 1 ∧
      mixIter w n r s =
        { s with A := a, B := b, S := (mixIter w n r s).S, L := (mixIter w n r s).L,
                 i := (mixIter w n r s).i, j := (mixIter w n r s).j, k := (mixIter w n r s).k }

/-- 43_key_schedule.md R140, R145: EXPKEY answers the table of `expand_key`, `T = 2(r+1)` Words; more than 255
rounds give BadLength. -/
def Obligations.ExpkeyAnswersTheExpandedKey : Prop :=
  ∀ (w : Width) (n r : Nat) (s : State), n ≤ 255 → s.MemoriesInForm →
    (r ≤ 255 → exec (.expkey w n r) s = .next (s.afterResponse
        { STATUS := .ok, Y0 := 0, Y1 := 0, OB := [], TBL := Reference.subkeys w n r s.RQ.BUF }) ∧
      (Reference.subkeys w n r s.RQ.BUF).length = 2 * (r + 1)) ∧
    (255 < r → exec (.expkey w n r) s = .next (s.afterResponse
      { STATUS := .badLength, Y0 := 0, Y1 := 0, OB := [], TBL := [] }))

/-- 43_key_schedule.md R147: two EXPKEY commands with equal fields and equal key bytes give equal responses,
whatever the ports, the other buffer cells and the rest of the two states hold. -/
def Obligations.ExpkeyDependsOnTheKeyTheRoundsAndTheWidthOnly : Prop :=
  ∀ (w : Width) (n r : Nat) (s t : State), n ≤ 255 → s.MemoriesInForm → t.MemoriesInForm →
    (∀ h < n, Memory.read s.RQ.BUF h = Memory.read t.RQ.BUF h) →
    ∃ rsp, exec (.expkey w n r) s = .next (s.afterResponse rsp) ∧
      exec (.expkey w n r) t = .next (t.afterResponse rsp)

/-! ### The block transform -/

/-- 44_block_transform.md R160: ENC answers `encrypt` of the block under the expanded key. -/
def Obligations.EncAnswersTheEncryptedBlock : Prop :=
  ∀ (w : Width) (n r : Nat) (s : State), n ≤ 255 → r ≤ 255 → s.MemoriesInForm →
    IsWord w s.RQ.X0 → IsWord w s.RQ.X1 →
    exec (.enc w n r) s = .next (s.afterResponse
      { STATUS := .ok,
        Y0 := (Reference.encryptBlock w (Reference.subkeys w n r s.RQ.BUF) r s.RQ.X0 s.RQ.X1).1,
        Y1 := (Reference.encryptBlock w (Reference.subkeys w n r s.RQ.BUF) r s.RQ.X0 s.RQ.X1).2,
        OB := [], TBL := [] })

/-- 44_block_transform.md R161: DEC answers `decrypt` of the block under the expanded key. -/
def Obligations.DecAnswersTheDecryptedBlock : Prop :=
  ∀ (w : Width) (n r : Nat) (s : State), n ≤ 255 → r ≤ 255 → s.MemoriesInForm →
    IsWord w s.RQ.X0 → IsWord w s.RQ.X1 →
    exec (.dec w n r) s = .next (s.afterResponse
      { STATUS := .ok,
        Y0 := (Reference.decryptBlock w (Reference.subkeys w n r s.RQ.BUF) r s.RQ.X0 s.RQ.X1).1,
        Y1 := (Reference.decryptBlock w (Reference.subkeys w n r s.RQ.BUF) r s.RQ.X0 s.RQ.X1).2,
        OB := [], TBL := [] })

/-- 43_key_schedule.md R148: ENC and DEC work with the very table an EXPKEY with the same fields returns, and
(44_block_transform.md R164) do not return it. -/
def Obligations.EncAndDecUseTheTableExpkeyReturns : Prop :=
  ∀ (w : Width) (n r : Nat) (s : State), n ≤ 255 → r ≤ 255 → s.MemoriesInForm →
    IsWord w s.RQ.X0 → IsWord w s.RQ.X1 →
    ∃ tbl : List Carrier,
      exec (.expkey w n r) s = .next (s.afterResponse
        { STATUS := .ok, Y0 := 0, Y1 := 0, OB := [], TBL := tbl }) ∧
      exec (.enc w n r) s = .next (s.afterResponse
        { STATUS := .ok, Y0 := (Reference.encryptBlock w tbl r s.RQ.X0 s.RQ.X1).1,
          Y1 := (Reference.encryptBlock w tbl r s.RQ.X0 s.RQ.X1).2, OB := [], TBL := [] }) ∧
      exec (.dec w n r) s = .next (s.afterResponse
        { STATUS := .ok, Y0 := (Reference.decryptBlock w tbl r s.RQ.X0 s.RQ.X1).1,
          Y1 := (Reference.decryptBlock w tbl r s.RQ.X0 s.RQ.X1).2, OB := [], TBL := [] })

/-- 44_block_transform.md R162: for every width, key and round count, DEC of what ENC answers is the plaintext and
ENC of what DEC answers is the ciphertext, so ENC is a bijection on the blocks. The second half is an inference
that the rule marks as derived. -/
def Obligations.EncAndDecUndoEachOther : Prop :=
  ∀ (w : Width) (n r : Nat) (s : State), n ≤ 255 → r ≤ 255 → s.MemoriesInForm →
    IsWord w s.RQ.X0 → IsWord w s.RQ.X1 →
    (∃ a b, exec (.enc w n r) s = .next (s.afterResponse
        { STATUS := .ok, Y0 := a, Y1 := b, OB := [], TBL := [] }) ∧
      ∀ t : State, t.MemoriesInForm → t.RQ.X0 = a → t.RQ.X1 = b →
        (∀ h < n, Memory.read t.RQ.BUF h = Memory.read s.RQ.BUF h) →
        exec (.dec w n r) t = .next (t.afterResponse
          { STATUS := .ok, Y0 := s.RQ.X0, Y1 := s.RQ.X1, OB := [], TBL := [] })) ∧
    (∃ a b, exec (.dec w n r) s = .next (s.afterResponse
        { STATUS := .ok, Y0 := a, Y1 := b, OB := [], TBL := [] }) ∧
      ∀ t : State, t.MemoriesInForm → t.RQ.X0 = a → t.RQ.X1 = b →
        (∀ h < n, Memory.read t.RQ.BUF h = Memory.read s.RQ.BUF h) →
        exec (.enc w n r) t = .next (t.afterResponse
          { STATUS := .ok, Y0 := s.RQ.X0, Y1 := s.RQ.X1, OB := [], TBL := [] }))

/-- 44_block_transform.md R163: with `r = 0` the table has two entries, the key schedule still runs in full, ENC
adds them to the block and DEC subtracts them. -/
def Obligations.ZeroRoundsOnlyAddOrSubtractTheTwoSubkeys : Prop :=
  ∀ (w : Width) (n : Nat) (s : State), n ≤ 255 → s.MemoriesInForm → IsWord w s.RQ.X0 → IsWord w s.RQ.X1 →
    tableSize 0 = 2 ∧ mixCount w n 0 = 3 * max (keyWords w n) 2 ∧
    ∃ s0 s1 : Carrier,
      exec (.expkey w n 0) s = .next (s.afterResponse
        { STATUS := .ok, Y0 := 0, Y1 := 0, OB := [], TBL := [s0, s1] }) ∧
      exec (.enc w n 0) s = .next (s.afterResponse
        { STATUS := .ok, Y0 := BitVec.ofNat 128 ((s.RQ.X0.toNat + s0.toNat) % 2 ^ w.bits),
          Y1 := BitVec.ofNat 128 ((s.RQ.X1.toNat + s1.toNat) % 2 ^ w.bits), OB := [], TBL := [] }) ∧
      exec (.dec w n 0) s = .next (s.afterResponse
        { STATUS := .ok, Y0 := BitVec.ofNat 128 ((s.RQ.X0.toNat + 2 ^ w.bits - s0.toNat) % 2 ^ w.bits),
          Y1 := BitVec.ofNat 128 ((s.RQ.X1.toNat + 2 ^ w.bits - s1.toNat) % 2 ^ w.bits), OB := [], TBL := [] })

/-- 70_reset_and_hazards.md R218: in an ENC round `A` is updated first and `B` from the new `A`; in a DEC round `B`
first and `A` from the new `B`; nothing else but `rnd` changes. -/
def Obligations.EachRoundUpdatesTheSecondHalfFromTheNewFirstHalf : Prop :=
  ∀ (w : Width) (r : Nat) (s : State),
    encRound w r s =
      { s with A := (encRound w r s).A, B := (encRound w r s).B, rnd := (encRound w r s).rnd } ∧
    (encRound w r s).A = wadd w (rotl w (s.A ^^^ s.B) s.B) (Memory.read s.S (2 * s.rnd.val)) ∧
    (encRound w r s).B = wadd w (rotl w (s.B ^^^ (encRound w r s).A) (encRound w r s).A)
      (Memory.read s.S (2 * s.rnd.val + 1)) ∧
    decRound w s = { s with A := (decRound w s).A, B := (decRound w s).B, rnd := (decRound w s).rnd } ∧
    (decRound w s).B = rotr w (wsub w s.B (Memory.read s.S (2 * s.rnd.val + 1))) s.A ^^^ s.A ∧
    (decRound w s).A = rotr w (wsub w s.A (Memory.read s.S (2 * s.rnd.val))) (decRound w s).B ^^^
      (decRound w s).B

/-! ### The machine as a whole -/

/-- 00_scope.md R9 and 70_reset_and_hazards.md R215: the step that runs a command answers the response that the
total function from request to response gives, and nothing else of the state takes part. -/
def Obligations.EveryCommandIsAFunctionOfItsRequest : Prop :=
  ∀ s : State, s.AtCheck → s.agenda = [] → s.MemoriesInForm →
    step s = .next (s.afterResponse (Reference.respond s.RQ))

/-- 30_encoding.md R80 (with 10_state.md R34): the response depends only on the ports and bytes the command
reads; no other port, buffer cell, register, memory cell or earlier response has any effect. -/
def Obligations.TheResponseDependsOnlyOnWhatTheCommandReads : Prop :=
  ∀ (i : Instr) (s t : State), i.wf = true → s.MemoriesInForm → t.MemoriesInForm →
    (i.readsX0 = true → s.RQ.X0 = t.RQ.X0) → (i.readsX1 = true → s.RQ.X1 = t.RQ.X1) →
    (i.readsBuf = true → ∀ h < i.nOperand, Memory.read s.RQ.BUF h = Memory.read t.RQ.BUF h) →
    ∃ rsp, exec i s = .next (s.afterResponse rsp) ∧ exec i t = .next (t.afterResponse rsp)

/-- 70_reset_and_hazards.md R215: the phases are a refinement that adds nothing: the moves of the sequencer from
CHECK to the completion answer exactly what the whole command answers, in the number of moves of Table R221-a
(the grain of a move is the model's, log entry 8). -/
def Obligations.PhaseByPhaseAnswersWhatTheWholeCommandAnswers : Prop :=
  ∀ (s : State) (i : Instr), s.AtCheck → decode s.RQ.CMD = .ok i →
    (checkOf i s.RQ = none → ticks (commandMoves i) s = exec i s) ∧
    (checkOf i s.RQ ≠ none → ticks 2 s = exec i s)

/-- 70_reset_and_hazards.md R220: every accepted command, legal or not, completes: every loop has its bound. The
bound of 2560 moves rests on the grain of a sequencer move, the model's choice (log entry 8). -/
def Obligations.EveryAcceptedCommandCompletes : Prop :=
  (∀ i : Instr, i.wf = true → i.rOperand ≤ 255 →
    i.nOperand ≤ 255 ∧ tableSize i.rOperand ≤ 512 ∧ mixCount i.width i.nOperand i.rOperand ≤ 1536) ∧
  ∀ s : State, s.AtCheck →
    ∃ count ≤ 2560, ∃ rsp, ticks count s = .next (s.afterResponse rsp)

/-- 10_state.md Table R28-a: a move keeps the phase (in a looping phase), goes to the next phase of the command,
ends it from FINISH, or takes the one early exit from CHECK to FINISH on an error. -/
def Obligations.PhasesFollowTheOrderOfTheTable : Prop :=
  ∀ (s t : State) (i : Instr), decode s.RQ.CMD = .ok i → tick s = .next t →
    (t.PH = s.PH ∧ s.PH ∈ [.pack, .init, .mix, .rounds]) ∨
    (s.PH, t.PH) ∈ (phaseOrder i).zip (phaseOrder i).tail ∨
    (s.PH = .finish ∧ t.PH = .idle) ∨
    (s.PH = .check ∧ t.PH = .finish ∧ checkOf i s.RQ ≠ none)

/-- 10_state.md R36: for two requests with the same command word that pass CHECK, the phases are the same move by
move, whatever the key bytes, the Words and the rest of the two states are. -/
def Obligations.ControlFlowDependsOnTheCommandWordOnly : Prop :=
  ∀ (i : Instr) (s s' t t' : State) (count : Nat), s.AtCheck → s'.AtCheck →
    s.RQ.CMD = s'.RQ.CMD → decode s.RQ.CMD = .ok i → checkOf i s.RQ = none → checkOf i s'.RQ = none →
    ticks count s = .next t → ticks count s' = .next t' → t.PH = t'.PH

/-- 10_state.md R22 and 20_memory.md R53: until FINISH a move changes neither the request latch nor the run state
nor the host's side; PRE, ROUNDS and POST only read the table, and leave the packed key and the other counters. -/
def Obligations.MovesKeepTheRequestAndTheFinishedTable : Prop :=
  ∀ s t : State, tick s = .next t → s.PH ≠ .finish →
    t.RQ = s.RQ ∧ t.ST = s.ST ∧ t.ports = s.ports ∧ t.agenda = s.agenda ∧ t.responses = s.responses ∧
    (s.PH = .pre ∨ s.PH = .rounds ∨ s.PH = .post →
      t.S = s.S ∧ t.L = s.L ∧ t.i = s.i ∧ t.j = s.j ∧ t.k = s.k ∧ t.h = s.h ∧ t.RSP = s.RSP)

/-- 10_state.md R33: whenever the engine is IDLE every element of it is zero; it is so after reset, and every step
keeps it. -/
def Obligations.AnIdleEngineStaysZero : Prop :=
  State.reset.Quiet ∧ ∀ s t : State, (s.ST = .idle → s.Quiet) → step s = .next t → t.ST = .idle → t.Quiet

/-- The reset state meets the invariant. -/
def Obligations.TheResetStateMeetsTheInvariant : Prop := State.reset.Inv

/-- The invariant is kept by every step: an idle engine is zero (10_state.md R33); a busy one is in a phase of its
command with its checks passed past CHECK (R28), counters in range (R24), Words of its width (00_scope.md R11), only
the cells in use written (R34), and every memory in canonical form. -/
def Obligations.EveryStepKeepsTheInvariant : Prop :=
  ∀ s t : State, s.Inv → step s = .next t → t.Inv

/-- No step from a state of the invariant ends in a fault or a refusal: the engine has no trap and no double fault
(60_exceptions.md R186, R188), and the model's own fault (log entry 9) is never raised. -/
def Obligations.NoStepFromTheInvariantStops : Prop := ∀ s : State, s.Inv → s.Goes
end

