-- ==== Sys2Proof/Laws/Memory.lean ====
section
/-!
SUPPORT. The memory operations: what a read gives after each, and that each keeps the canonical form.
-/

namespace Sys2Proof.Machine.Memory

variable {m : Nat}

@[simp] theorem read_nil (a : Nat) : read ([] : Memory m) a = 0 := rfl

theorem unlisted_eq : unlisted m = 0 := rfl

/-- A cell below every listed index is not listed. -/
theorem read_of_lt (cells : Memory m) (a : Nat) (h : ∀ c ∈ cells, a < c.1) : read cells a = 0 := by
  induction cells with
  | nil => rfl
  | cons c cells ih =>
    obtain ⟨b, v⟩ := c
    have hb : a < b := h (b, v) (by simp)
    have hne : a ≠ b := by omega
    simp only [read, if_neg hne]
    exact ih fun c hc => h c (by simp [hc])

/-- Every index listed after a write was listed before it or is the one written. -/
theorem mem_write (cells : Memory m) (a : Nat) (v : BitVec m) {c : Nat × BitVec m}
    (hc : c ∈ write cells a v) : c ∈ cells ∨ c = (a, v) := by
  induction cells with
  | nil =>
    simp only [write] at hc
    split at hc <;> simp_all
  | cons d cells ih =>
    obtain ⟨b, u⟩ := d
    simp only [write] at hc
    split at hc
    · split at hc
      · exact .inl hc
      · rcases List.mem_cons.1 hc with h | h
        · exact .inr h
        · exact .inl h
    · split at hc
      · split at hc
        · exact .inl (List.mem_cons_of_mem _ hc)
        · rcases List.mem_cons.1 hc with h | h
          · exact .inr h
          · exact .inl (List.mem_cons_of_mem _ h)
      · rcases List.mem_cons.1 hc with h | h
        · exact .inl (h ▸ List.mem_cons_self ..)
        · rcases ih h with h | h
          · exact .inl (List.mem_cons_of_mem _ h)
          · exact .inr h

/-- A write keeps the canonical form. -/
theorem wf_write {depth : Nat} {cells : Memory m} (h : wf depth cells) {a : Nat} (ha : a < depth)
    (v : BitVec m) : wf depth (write cells a v) := by
  induction cells with
  | nil =>
    simp only [write]
    split
    · exact ⟨List.Pairwise.nil, by simp⟩
    · exact ⟨List.pairwise_singleton _ _, by simp_all⟩
  | cons d cells ih =>
    obtain ⟨b, u⟩ := d
    obtain ⟨hp, hd⟩ := h
    have hp' := List.pairwise_cons.1 hp
    have htail : wf depth cells := ⟨hp'.2, fun c hc => hd c (List.mem_cons_of_mem _ hc)⟩
    simp only [write]
    split
    · split
      · exact ⟨hp, hd⟩
      · rename_i hlt hv
        refine ⟨List.pairwise_cons.2 ⟨fun c hc => ?_, hp⟩, fun c hc => ?_⟩
        · rcases List.mem_cons.1 hc with rfl | hc
          · exact hlt
          · exact Nat.lt_trans hlt (hp'.1 c hc)
        · rcases List.mem_cons.1 hc with rfl | hc
          · exact ⟨ha, hv⟩
          · exact hd c hc
    · split
      · split
        · exact htail
        · rename_i hab hv
          refine ⟨List.pairwise_cons.2 ⟨fun c hc => hab ▸ hp'.1 c hc, hp'.2⟩, fun c hc => ?_⟩
          rcases List.mem_cons.1 hc with rfl | hc
          · exact ⟨ha, hv⟩
          · exact htail.2 c hc
      · rename_i hlt hne
        have hw := ih htail
        refine ⟨List.pairwise_cons.2 ⟨fun c hc => ?_, hw.1⟩, fun c hc => ?_⟩
        · rcases mem_write cells a v hc with hc | rfl
          · exact hp'.1 c hc
          · show b < a
            omega
        · rcases List.mem_cons.1 hc with rfl | hc
          · exact hd _ (List.mem_cons_self ..)
          · exact hw.2 c hc

/-- Reading the cell written gives the value written. -/
theorem read_write_same {depth : Nat} {cells : Memory m} (h : wf depth cells) (a : Nat) (v : BitVec m) :
    read (write cells a v) a = v := by
  induction cells with
  | nil =>
    simp only [write]
    split <;> simp_all [read, unlisted]
  | cons d cells ih =>
    obtain ⟨b, u⟩ := d
    obtain ⟨hp, hd⟩ := h
    have hp' := List.pairwise_cons.1 hp
    have htail : wf depth cells := ⟨hp'.2, fun c hc => hd c (List.mem_cons_of_mem _ hc)⟩
    simp only [write]
    split
    · rename_i hlt
      split
      · rename_i hv
        rw [read_of_lt _ _ fun c hc => ?_, hv]
        · rfl
        · rcases List.mem_cons.1 hc with rfl | hc
          · exact hlt
          · exact Nat.lt_trans hlt (hp'.1 c hc)
      · simp [read]
    · split
      · rename_i hab
        split
        · rename_i hv
          rw [read_of_lt _ _ fun c hc => hab ▸ hp'.1 c hc, hv]
          rfl
        · simp [read]
      · rename_i hne
        simp only [read, if_neg hne]
        exact ih htail

/-- A write leaves every other cell as it was. -/
theorem read_write_other (cells : Memory m) {a a' : Nat} (hne : a' ≠ a) (v : BitVec m) :
    read (write cells a v) a' = read cells a' := by
  induction cells with
  | nil =>
    simp only [write]
    split <;> simp [read, hne]
  | cons d cells ih =>
    obtain ⟨b, u⟩ := d
    simp only [write]
    split
    · split <;> simp [read, hne]
    · split
      · rename_i hab
        subst hab
        split <;> simp [read, hne]
      · simp only [read, ih]

/-- A write, read back at any cell. -/
theorem read_write {depth : Nat} {cells : Memory m} (h : wf depth cells) (a a' : Nat) (v : BitVec m) :
    read (write cells a v) a' = if a' = a then v else read cells a' := by
  split
  · rename_i e
    exact e ▸ read_write_same h a v
  · rename_i e
    exact read_write_other cells e v

/-- Clearing keeps the canonical form. -/
theorem wf_clear {depth : Nat} {cells : Memory m} (h : wf depth cells) {count : Nat} (hc : count ≤ depth) :
    wf depth (clear count cells) := by
  unfold clear
  induction count with
  | zero => simpa using h
  | succ count ih =>
    rw [List.range_succ, List.foldl_append]
    exact wf_write (ih (by omega)) (by omega) 0

/-- A cleared memory: the cells below `count` are zero, the others as they were. -/
theorem read_clear {depth : Nat} {cells : Memory m} (h : wf depth cells) {count : Nat} (hc : count ≤ depth)
    (a : Nat) : read (clear count cells) a = if a < count then 0 else read cells a := by
  induction count with
  | zero => simp [clear]
  | succ count ih =>
    have hstep : clear (count + 1) cells = write (clear count cells) count 0 := by
      simp [clear, List.range_succ, List.foldl_append]
    rw [hstep, read_write (wf_clear h (by omega)), ih (by omega)]
    by_cases ha : a = count
    · subst ha
      simp
    · have : a < count + 1 ↔ a < count := by omega
      simp [ha, this]

/-- Copying the cells of an index list in falling order. -/
theorem wf_copyFold {depth : Nat} (src : Memory m) (idx : List Nat) (hidx : ∀ q ∈ idx, q < depth) :
    wf depth (idx.foldr (fun q acc => write acc q (read src q)) []) := by
  induction idx with
  | nil => exact ⟨List.Pairwise.nil, by simp⟩
  | cons q idx ih =>
    exact wf_write (ih fun p hp => hidx p (List.mem_cons_of_mem _ hp)) (hidx q (List.mem_cons_self ..)) _

/-- A copy has the canonical form, whatever it was copied from. -/
theorem wf_copy (count : Nat) (src : Memory m) : wf count (copy count src) :=
  wf_copyFold src _ fun _ hq => List.mem_range.1 hq

/-- A copy holds the cells below `count` and nothing else. -/
theorem read_copy (count : Nat) (src : Memory m) (a : Nat) :
    read (copy count src) a = if a < count then read src a else 0 := by
  have key : ∀ idx : List Nat, (∀ q ∈ idx, q < count) →
      read (idx.foldr (fun q acc => write acc q (read src q)) []) a = if a ∈ idx then read src a else 0 := by
    intro idx
    induction idx with
    | nil => simp
    | cons q idx ih =>
      intro hidx
      have hrest := fun p hp => hidx p (List.mem_cons_of_mem _ hp)
      simp only [List.foldr_cons, read_write (wf_copyFold src idx hrest), ih hrest, List.mem_cons]
      by_cases haq : a = q
      · subst haq
        simp
      · simp [haq]
  simpa [copy] using key (List.range count) (by simp)

/-- The cells in index order, one by one. -/
theorem getD_toList (count : Nat) (cells : Memory m) {a : Nat} (ha : a < count) :
    (toList count cells).getD a 0 = read cells a := by
  simp [toList, ha]

@[simp] theorem length_toList (count : Nat) (cells : Memory m) : (toList count cells).length = count := by
  simp [toList]

/-- The canonical form with room to spare. -/
theorem wf_mono {depth depth' : Nat} {cells : Memory m} (h : wf depth cells) (hle : depth ≤ depth') :
    wf depth' cells :=
  ⟨h.1, fun c hc => ⟨Nat.lt_of_lt_of_le (h.2 c hc).1 hle, (h.2 c hc).2⟩⟩

/-- The memory after reset has the canonical form. -/
theorem wf_nil (depth : Nat) : wf depth ([] : Memory m) := ⟨List.Pairwise.nil, by simp⟩

end Sys2Proof.Machine.Memory

namespace Sys2Proof.Machine.State

/-- Every memory of the reset state has the canonical form. -/
theorem reset_memories_wf :
    Memory.wf Config.bufDepth State.reset.RQ.BUF ∧ Memory.wf Config.keyDepth State.reset.L ∧
    Memory.wf Config.tableDepth State.reset.S :=
  ⟨Memory.wf_nil _, Memory.wf_nil _, Memory.wf_nil _⟩

end Sys2Proof.Machine.State
end

