-- ==== Sys2Proof/Laws/Assembler.lean ====
section
/-!
SUPPORT. The buffer of an assembler form.
-/

namespace Sys2Proof.Machine

/-- The buffer of a byte string has the canonical form. -/
theorem wf_bufferOf (bs : List Byte) : ∀ a depth, a + bs.length ≤ depth → Memory.wf depth (bufferOf a bs) := by
  induction bs with
  | nil => exact fun _ depth _ => Memory.wf_nil depth
  | cons b bs ih =>
    intro a depth h
    simp only [List.length_cons] at h
    exact Memory.wf_write (ih (a + 1) depth (by omega)) (by omega) b

/-- Cell `a + k` of the buffer is byte `k` of the string, and every other cell is zero. -/
theorem read_bufferOf (bs : List Byte) :
    ∀ a q, Memory.read (bufferOf a bs) q = if q < a then 0 else bs.getD (q - a) 0 := by
  induction bs with
  | nil => intro a q; simp [bufferOf]
  | cons b bs ih =>
    intro a q
    rw [bufferOf, Memory.read_write (wf_bufferOf bs (a + 1) _ le_rfl), ih]
    by_cases hqa : q = a
    · subst hqa; simp
    · by_cases hlt : q < a
      · simp [hqa, hlt, Nat.lt_succ_of_lt hlt]
      · obtain ⟨d, rfl⟩ : ∃ d, q = a + 1 + d := ⟨q - (a + 1), by omega⟩
        have h0 : ¬ a + 1 + d ≤ a := by omega
        have h1 : a + 1 + d - a = d + 1 := by omega
        have h2 : a + 1 + d - (a + 1) = d := by omega
        simp [hqa, hlt, h0, h1, h2]

end Sys2Proof.Machine
end

