-- ==== Sys2Proof/Laws/Encoding.lean ====
section
/-!
SUPPORT. The fields of a packed command word.
-/

namespace Sys2Proof

/-- A field of a command word, as arithmetic on its number. -/
theorem fields_arith (c : BitVec 32) :
    opField c = c.toNat % 16 ∧ wselField c = c.toNat / 16 % 8 ∧ z7Field c = c.toNat / 128 % 2 ∧
    nField c = c.toNat / 256 % 256 ∧ rField c = c.toNat / 65536 % 65536 := by
  refine ⟨?_, ?_, ?_, ?_, ?_⟩ <;> simp [opField, wselField, z7Field, nField, rField, slice]

/-- The command word is the sum of its fields (30_encoding.md R71). -/
theorem toNat_eq_fields (c : BitVec 32) :
    c.toNat = opField c + 16 * wselField c + 128 * z7Field c + 256 * nField c + 65536 * rField c := by
  obtain ⟨h1, h2, h3, h4, h5⟩ := fields_arith c
  have := c.isLt
  omega

theorem Width.sel_lt (w : Width) : w.sel < 8 := by cases w <;> decide

/-- A selector fits its field. -/
theorem ConstSel.code_lt (sel : ConstSel) : sel.code < 256 := by cases sel <;> decide

theorem Instr.opcode_lt (i : Instr) : i.opcode < 16 := by cases i <;> simp [Instr.opcode]

@[simp] theorem widthOfSel_sel (w : Width) : widthOfSel w.sel = some w := by cases w <;> rfl

@[simp] theorem constSelOf_code (sel : ConstSel) : constSelOf sel.code = some sel := by cases sel <;> rfl

/-- The fields of a packed word are what was packed. -/
theorem fields_packFields (w : Width) {op n r : Nat} (ho : op < 16) (hn : n < 256) (hr : r < 65536) :
    opField (packFields op w n r) = op ∧ wselField (packFields op w n r) = w.sel ∧
    z7Field (packFields op w n r) = 0 ∧ nField (packFields op w n r) = n ∧
    rField (packFields op w n r) = r := by
  obtain ⟨h1, h2, h3, h4, h5⟩ := fields_arith (packFields op w n r)
  have hw := w.sel_lt
  have e : (packFields op w n r).toNat = op + 16 * w.sel + 256 * n + 65536 * r := by
    simp only [packFields, BitVec.toNat_ofNat]
    exact Nat.mod_eq_of_lt (by omega)
  rw [e] at h1 h2 h3 h4 h5
  refine ⟨?_, ?_, ?_, ?_, ?_⟩ <;> omega

end Sys2Proof
end

