-- ==== Sys2Proof/Laws/State.lean ====
section
/-!
SUPPORT. What each named update of State does to each field, so that no later proof unfolds a record update.
-/

namespace Sys2Proof.Machine.State

section
variable (s : State) (v : RunState)
@[simp] theorem setST_ST : (s.setST v).ST = v := rfl
@[simp] theorem setST_PH : (s.setST v).PH = s.PH := rfl
@[simp] theorem setST_RQ : (s.setST v).RQ = s.RQ := rfl
@[simp] theorem setST_A : (s.setST v).A = s.A := rfl
@[simp] theorem setST_B : (s.setST v).B = s.B := rfl
@[simp] theorem setST_i : (s.setST v).i = s.i := rfl
@[simp] theorem setST_j : (s.setST v).j = s.j := rfl
@[simp] theorem setST_k : (s.setST v).k = s.k := rfl
@[simp] theorem setST_h : (s.setST v).h = s.h := rfl
@[simp] theorem setST_rnd : (s.setST v).rnd = s.rnd := rfl
@[simp] theorem setST_L : (s.setST v).L = s.L := rfl
@[simp] theorem setST_S : (s.setST v).S = s.S := rfl
@[simp] theorem setST_RSP : (s.setST v).RSP = s.RSP := rfl
@[simp] theorem setST_ports : (s.setST v).ports = s.ports := rfl
@[simp] theorem setST_agenda : (s.setST v).agenda = s.agenda := rfl
@[simp] theorem setST_responses : (s.setST v).responses = s.responses := rfl
end

section
variable (s : State) (v : Phase)
@[simp] theorem setPH_ST : (s.setPH v).ST = s.ST := rfl
@[simp] theorem setPH_PH : (s.setPH v).PH = v := rfl
@[simp] theorem setPH_RQ : (s.setPH v).RQ = s.RQ := rfl
@[simp] theorem setPH_A : (s.setPH v).A = s.A := rfl
@[simp] theorem setPH_B : (s.setPH v).B = s.B := rfl
@[simp] theorem setPH_i : (s.setPH v).i = s.i := rfl
@[simp] theorem setPH_j : (s.setPH v).j = s.j := rfl
@[simp] theorem setPH_k : (s.setPH v).k = s.k := rfl
@[simp] theorem setPH_h : (s.setPH v).h = s.h := rfl
@[simp] theorem setPH_rnd : (s.setPH v).rnd = s.rnd := rfl
@[simp] theorem setPH_L : (s.setPH v).L = s.L := rfl
@[simp] theorem setPH_S : (s.setPH v).S = s.S := rfl
@[simp] theorem setPH_RSP : (s.setPH v).RSP = s.RSP := rfl
@[simp] theorem setPH_ports : (s.setPH v).ports = s.ports := rfl
@[simp] theorem setPH_agenda : (s.setPH v).agenda = s.agenda := rfl
@[simp] theorem setPH_responses : (s.setPH v).responses = s.responses := rfl
end

section
variable (s : State) (v : Request)
@[simp] theorem setRQ_ST : (s.setRQ v).ST = s.ST := rfl
@[simp] theorem setRQ_PH : (s.setRQ v).PH = s.PH := rfl
@[simp] theorem setRQ_RQ : (s.setRQ v).RQ = v := rfl
@[simp] theorem setRQ_A : (s.setRQ v).A = s.A := rfl
@[simp] theorem setRQ_B : (s.setRQ v).B = s.B := rfl
@[simp] theorem setRQ_i : (s.setRQ v).i = s.i := rfl
@[simp] theorem setRQ_j : (s.setRQ v).j = s.j := rfl
@[simp] theorem setRQ_k : (s.setRQ v).k = s.k := rfl
@[simp] theorem setRQ_h : (s.setRQ v).h = s.h := rfl
@[simp] theorem setRQ_rnd : (s.setRQ v).rnd = s.rnd := rfl
@[simp] theorem setRQ_L : (s.setRQ v).L = s.L := rfl
@[simp] theorem setRQ_S : (s.setRQ v).S = s.S := rfl
@[simp] theorem setRQ_RSP : (s.setRQ v).RSP = s.RSP := rfl
@[simp] theorem setRQ_ports : (s.setRQ v).ports = s.ports := rfl
@[simp] theorem setRQ_agenda : (s.setRQ v).agenda = s.agenda := rfl
@[simp] theorem setRQ_responses : (s.setRQ v).responses = s.responses := rfl
end

section
variable (s : State) (v : Carrier)
@[simp] theorem setA_ST : (s.setA v).ST = s.ST := rfl
@[simp] theorem setA_PH : (s.setA v).PH = s.PH := rfl
@[simp] theorem setA_RQ : (s.setA v).RQ = s.RQ := rfl
@[simp] theorem setA_A : (s.setA v).A = v := rfl
@[simp] theorem setA_B : (s.setA v).B = s.B := rfl
@[simp] theorem setA_i : (s.setA v).i = s.i := rfl
@[simp] theorem setA_j : (s.setA v).j = s.j := rfl
@[simp] theorem setA_k : (s.setA v).k = s.k := rfl
@[simp] theorem setA_h : (s.setA v).h = s.h := rfl
@[simp] theorem setA_rnd : (s.setA v).rnd = s.rnd := rfl
@[simp] theorem setA_L : (s.setA v).L = s.L := rfl
@[simp] theorem setA_S : (s.setA v).S = s.S := rfl
@[simp] theorem setA_RSP : (s.setA v).RSP = s.RSP := rfl
@[simp] theorem setA_ports : (s.setA v).ports = s.ports := rfl
@[simp] theorem setA_agenda : (s.setA v).agenda = s.agenda := rfl
@[simp] theorem setA_responses : (s.setA v).responses = s.responses := rfl
end

section
variable (s : State) (v : Carrier)
@[simp] theorem setB_ST : (s.setB v).ST = s.ST := rfl
@[simp] theorem setB_PH : (s.setB v).PH = s.PH := rfl
@[simp] theorem setB_RQ : (s.setB v).RQ = s.RQ := rfl
@[simp] theorem setB_A : (s.setB v).A = s.A := rfl
@[simp] theorem setB_B : (s.setB v).B = v := rfl
@[simp] theorem setB_i : (s.setB v).i = s.i := rfl
@[simp] theorem setB_j : (s.setB v).j = s.j := rfl
@[simp] theorem setB_k : (s.setB v).k = s.k := rfl
@[simp] theorem setB_h : (s.setB v).h = s.h := rfl
@[simp] theorem setB_rnd : (s.setB v).rnd = s.rnd := rfl
@[simp] theorem setB_L : (s.setB v).L = s.L := rfl
@[simp] theorem setB_S : (s.setB v).S = s.S := rfl
@[simp] theorem setB_RSP : (s.setB v).RSP = s.RSP := rfl
@[simp] theorem setB_ports : (s.setB v).ports = s.ports := rfl
@[simp] theorem setB_agenda : (s.setB v).agenda = s.agenda := rfl
@[simp] theorem setB_responses : (s.setB v).responses = s.responses := rfl
end

section
variable (s : State) (v : Fin 512)
@[simp] theorem setI_ST : (s.setI v).ST = s.ST := rfl
@[simp] theorem setI_PH : (s.setI v).PH = s.PH := rfl
@[simp] theorem setI_RQ : (s.setI v).RQ = s.RQ := rfl
@[simp] theorem setI_A : (s.setI v).A = s.A := rfl
@[simp] theorem setI_B : (s.setI v).B = s.B := rfl
@[simp] theorem setI_i : (s.setI v).i = v := rfl
@[simp] theorem setI_j : (s.setI v).j = s.j := rfl
@[simp] theorem setI_k : (s.setI v).k = s.k := rfl
@[simp] theorem setI_h : (s.setI v).h = s.h := rfl
@[simp] theorem setI_rnd : (s.setI v).rnd = s.rnd := rfl
@[simp] theorem setI_L : (s.setI v).L = s.L := rfl
@[simp] theorem setI_S : (s.setI v).S = s.S := rfl
@[simp] theorem setI_RSP : (s.setI v).RSP = s.RSP := rfl
@[simp] theorem setI_ports : (s.setI v).ports = s.ports := rfl
@[simp] theorem setI_agenda : (s.setI v).agenda = s.agenda := rfl
@[simp] theorem setI_responses : (s.setI v).responses = s.responses := rfl
end

section
variable (s : State) (v : Fin 255)
@[simp] theorem setJ_ST : (s.setJ v).ST = s.ST := rfl
@[simp] theorem setJ_PH : (s.setJ v).PH = s.PH := rfl
@[simp] theorem setJ_RQ : (s.setJ v).RQ = s.RQ := rfl
@[simp] theorem setJ_A : (s.setJ v).A = s.A := rfl
@[simp] theorem setJ_B : (s.setJ v).B = s.B := rfl
@[simp] theorem setJ_i : (s.setJ v).i = s.i := rfl
@[simp] theorem setJ_j : (s.setJ v).j = v := rfl
@[simp] theorem setJ_k : (s.setJ v).k = s.k := rfl
@[simp] theorem setJ_h : (s.setJ v).h = s.h := rfl
@[simp] theorem setJ_rnd : (s.setJ v).rnd = s.rnd := rfl
@[simp] theorem setJ_L : (s.setJ v).L = s.L := rfl
@[simp] theorem setJ_S : (s.setJ v).S = s.S := rfl
@[simp] theorem setJ_RSP : (s.setJ v).RSP = s.RSP := rfl
@[simp] theorem setJ_ports : (s.setJ v).ports = s.ports := rfl
@[simp] theorem setJ_agenda : (s.setJ v).agenda = s.agenda := rfl
@[simp] theorem setJ_responses : (s.setJ v).responses = s.responses := rfl
end

section
variable (s : State) (v : Fin 1537)
@[simp] theorem setK_ST : (s.setK v).ST = s.ST := rfl
@[simp] theorem setK_PH : (s.setK v).PH = s.PH := rfl
@[simp] theorem setK_RQ : (s.setK v).RQ = s.RQ := rfl
@[simp] theorem setK_A : (s.setK v).A = s.A := rfl
@[simp] theorem setK_B : (s.setK v).B = s.B := rfl
@[simp] theorem setK_i : (s.setK v).i = s.i := rfl
@[simp] theorem setK_j : (s.setK v).j = s.j := rfl
@[simp] theorem setK_k : (s.setK v).k = v := rfl
@[simp] theorem setK_h : (s.setK v).h = s.h := rfl
@[simp] theorem setK_rnd : (s.setK v).rnd = s.rnd := rfl
@[simp] theorem setK_L : (s.setK v).L = s.L := rfl
@[simp] theorem setK_S : (s.setK v).S = s.S := rfl
@[simp] theorem setK_RSP : (s.setK v).RSP = s.RSP := rfl
@[simp] theorem setK_ports : (s.setK v).ports = s.ports := rfl
@[simp] theorem setK_agenda : (s.setK v).agenda = s.agenda := rfl
@[simp] theorem setK_responses : (s.setK v).responses = s.responses := rfl
end

section
variable (s : State) (v : Fin 255)
@[simp] theorem setH_ST : (s.setH v).ST = s.ST := rfl
@[simp] theorem setH_PH : (s.setH v).PH = s.PH := rfl
@[simp] theorem setH_RQ : (s.setH v).RQ = s.RQ := rfl
@[simp] theorem setH_A : (s.setH v).A = s.A := rfl
@[simp] theorem setH_B : (s.setH v).B = s.B := rfl
@[simp] theorem setH_i : (s.setH v).i = s.i := rfl
@[simp] theorem setH_j : (s.setH v).j = s.j := rfl
@[simp] theorem setH_k : (s.setH v).k = s.k := rfl
@[simp] theorem setH_h : (s.setH v).h = v := rfl
@[simp] theorem setH_rnd : (s.setH v).rnd = s.rnd := rfl
@[simp] theorem setH_L : (s.setH v).L = s.L := rfl
@[simp] theorem setH_S : (s.setH v).S = s.S := rfl
@[simp] theorem setH_RSP : (s.setH v).RSP = s.RSP := rfl
@[simp] theorem setH_ports : (s.setH v).ports = s.ports := rfl
@[simp] theorem setH_agenda : (s.setH v).agenda = s.agenda := rfl
@[simp] theorem setH_responses : (s.setH v).responses = s.responses := rfl
end

section
variable (s : State) (v : Fin 256)
@[simp] theorem setRnd_ST : (s.setRnd v).ST = s.ST := rfl
@[simp] theorem setRnd_PH : (s.setRnd v).PH = s.PH := rfl
@[simp] theorem setRnd_RQ : (s.setRnd v).RQ = s.RQ := rfl
@[simp] theorem setRnd_A : (s.setRnd v).A = s.A := rfl
@[simp] theorem setRnd_B : (s.setRnd v).B = s.B := rfl
@[simp] theorem setRnd_i : (s.setRnd v).i = s.i := rfl
@[simp] theorem setRnd_j : (s.setRnd v).j = s.j := rfl
@[simp] theorem setRnd_k : (s.setRnd v).k = s.k := rfl
@[simp] theorem setRnd_h : (s.setRnd v).h = s.h := rfl
@[simp] theorem setRnd_rnd : (s.setRnd v).rnd = v := rfl
@[simp] theorem setRnd_L : (s.setRnd v).L = s.L := rfl
@[simp] theorem setRnd_S : (s.setRnd v).S = s.S := rfl
@[simp] theorem setRnd_RSP : (s.setRnd v).RSP = s.RSP := rfl
@[simp] theorem setRnd_ports : (s.setRnd v).ports = s.ports := rfl
@[simp] theorem setRnd_agenda : (s.setRnd v).agenda = s.agenda := rfl
@[simp] theorem setRnd_responses : (s.setRnd v).responses = s.responses := rfl
end

section
variable (s : State) (v : Memory 128)
@[simp] theorem setL_ST : (s.setL v).ST = s.ST := rfl
@[simp] theorem setL_PH : (s.setL v).PH = s.PH := rfl
@[simp] theorem setL_RQ : (s.setL v).RQ = s.RQ := rfl
@[simp] theorem setL_A : (s.setL v).A = s.A := rfl
@[simp] theorem setL_B : (s.setL v).B = s.B := rfl
@[simp] theorem setL_i : (s.setL v).i = s.i := rfl
@[simp] theorem setL_j : (s.setL v).j = s.j := rfl
@[simp] theorem setL_k : (s.setL v).k = s.k := rfl
@[simp] theorem setL_h : (s.setL v).h = s.h := rfl
@[simp] theorem setL_rnd : (s.setL v).rnd = s.rnd := rfl
@[simp] theorem setL_L : (s.setL v).L = v := rfl
@[simp] theorem setL_S : (s.setL v).S = s.S := rfl
@[simp] theorem setL_RSP : (s.setL v).RSP = s.RSP := rfl
@[simp] theorem setL_ports : (s.setL v).ports = s.ports := rfl
@[simp] theorem setL_agenda : (s.setL v).agenda = s.agenda := rfl
@[simp] theorem setL_responses : (s.setL v).responses = s.responses := rfl
end

section
variable (s : State) (v : Memory 128)
@[simp] theorem setS_ST : (s.setS v).ST = s.ST := rfl
@[simp] theorem setS_PH : (s.setS v).PH = s.PH := rfl
@[simp] theorem setS_RQ : (s.setS v).RQ = s.RQ := rfl
@[simp] theorem setS_A : (s.setS v).A = s.A := rfl
@[simp] theorem setS_B : (s.setS v).B = s.B := rfl
@[simp] theorem setS_i : (s.setS v).i = s.i := rfl
@[simp] theorem setS_j : (s.setS v).j = s.j := rfl
@[simp] theorem setS_k : (s.setS v).k = s.k := rfl
@[simp] theorem setS_h : (s.setS v).h = s.h := rfl
@[simp] theorem setS_rnd : (s.setS v).rnd = s.rnd := rfl
@[simp] theorem setS_L : (s.setS v).L = s.L := rfl
@[simp] theorem setS_S : (s.setS v).S = v := rfl
@[simp] theorem setS_RSP : (s.setS v).RSP = s.RSP := rfl
@[simp] theorem setS_ports : (s.setS v).ports = s.ports := rfl
@[simp] theorem setS_agenda : (s.setS v).agenda = s.agenda := rfl
@[simp] theorem setS_responses : (s.setS v).responses = s.responses := rfl
end

section
variable (s : State) (v : Response)
@[simp] theorem setRSP_ST : (s.setRSP v).ST = s.ST := rfl
@[simp] theorem setRSP_PH : (s.setRSP v).PH = s.PH := rfl
@[simp] theorem setRSP_RQ : (s.setRSP v).RQ = s.RQ := rfl
@[simp] theorem setRSP_A : (s.setRSP v).A = s.A := rfl
@[simp] theorem setRSP_B : (s.setRSP v).B = s.B := rfl
@[simp] theorem setRSP_i : (s.setRSP v).i = s.i := rfl
@[simp] theorem setRSP_j : (s.setRSP v).j = s.j := rfl
@[simp] theorem setRSP_k : (s.setRSP v).k = s.k := rfl
@[simp] theorem setRSP_h : (s.setRSP v).h = s.h := rfl
@[simp] theorem setRSP_rnd : (s.setRSP v).rnd = s.rnd := rfl
@[simp] theorem setRSP_L : (s.setRSP v).L = s.L := rfl
@[simp] theorem setRSP_S : (s.setRSP v).S = s.S := rfl
@[simp] theorem setRSP_RSP : (s.setRSP v).RSP = v := rfl
@[simp] theorem setRSP_ports : (s.setRSP v).ports = s.ports := rfl
@[simp] theorem setRSP_agenda : (s.setRSP v).agenda = s.agenda := rfl
@[simp] theorem setRSP_responses : (s.setRSP v).responses = s.responses := rfl
end

section
variable (s : State) (v : Request)
@[simp] theorem setPorts_ST : (s.setPorts v).ST = s.ST := rfl
@[simp] theorem setPorts_PH : (s.setPorts v).PH = s.PH := rfl
@[simp] theorem setPorts_RQ : (s.setPorts v).RQ = s.RQ := rfl
@[simp] theorem setPorts_A : (s.setPorts v).A = s.A := rfl
@[simp] theorem setPorts_B : (s.setPorts v).B = s.B := rfl
@[simp] theorem setPorts_i : (s.setPorts v).i = s.i := rfl
@[simp] theorem setPorts_j : (s.setPorts v).j = s.j := rfl
@[simp] theorem setPorts_k : (s.setPorts v).k = s.k := rfl
@[simp] theorem setPorts_h : (s.setPorts v).h = s.h := rfl
@[simp] theorem setPorts_rnd : (s.setPorts v).rnd = s.rnd := rfl
@[simp] theorem setPorts_L : (s.setPorts v).L = s.L := rfl
@[simp] theorem setPorts_S : (s.setPorts v).S = s.S := rfl
@[simp] theorem setPorts_RSP : (s.setPorts v).RSP = s.RSP := rfl
@[simp] theorem setPorts_ports : (s.setPorts v).ports = v := rfl
@[simp] theorem setPorts_agenda : (s.setPorts v).agenda = s.agenda := rfl
@[simp] theorem setPorts_responses : (s.setPorts v).responses = s.responses := rfl
end

section
variable (s : State) (v : List Turn)
@[simp] theorem setAgenda_ST : (s.setAgenda v).ST = s.ST := rfl
@[simp] theorem setAgenda_PH : (s.setAgenda v).PH = s.PH := rfl
@[simp] theorem setAgenda_RQ : (s.setAgenda v).RQ = s.RQ := rfl
@[simp] theorem setAgenda_A : (s.setAgenda v).A = s.A := rfl
@[simp] theorem setAgenda_B : (s.setAgenda v).B = s.B := rfl
@[simp] theorem setAgenda_i : (s.setAgenda v).i = s.i := rfl
@[simp] theorem setAgenda_j : (s.setAgenda v).j = s.j := rfl
@[simp] theorem setAgenda_k : (s.setAgenda v).k = s.k := rfl
@[simp] theorem setAgenda_h : (s.setAgenda v).h = s.h := rfl
@[simp] theorem setAgenda_rnd : (s.setAgenda v).rnd = s.rnd := rfl
@[simp] theorem setAgenda_L : (s.setAgenda v).L = s.L := rfl
@[simp] theorem setAgenda_S : (s.setAgenda v).S = s.S := rfl
@[simp] theorem setAgenda_RSP : (s.setAgenda v).RSP = s.RSP := rfl
@[simp] theorem setAgenda_ports : (s.setAgenda v).ports = s.ports := rfl
@[simp] theorem setAgenda_agenda : (s.setAgenda v).agenda = v := rfl
@[simp] theorem setAgenda_responses : (s.setAgenda v).responses = s.responses := rfl
end

section
variable (s : State) (v : List Response)
@[simp] theorem setResponses_ST : (s.setResponses v).ST = s.ST := rfl
@[simp] theorem setResponses_PH : (s.setResponses v).PH = s.PH := rfl
@[simp] theorem setResponses_RQ : (s.setResponses v).RQ = s.RQ := rfl
@[simp] theorem setResponses_A : (s.setResponses v).A = s.A := rfl
@[simp] theorem setResponses_B : (s.setResponses v).B = s.B := rfl
@[simp] theorem setResponses_i : (s.setResponses v).i = s.i := rfl
@[simp] theorem setResponses_j : (s.setResponses v).j = s.j := rfl
@[simp] theorem setResponses_k : (s.setResponses v).k = s.k := rfl
@[simp] theorem setResponses_h : (s.setResponses v).h = s.h := rfl
@[simp] theorem setResponses_rnd : (s.setResponses v).rnd = s.rnd := rfl
@[simp] theorem setResponses_L : (s.setResponses v).L = s.L := rfl
@[simp] theorem setResponses_S : (s.setResponses v).S = s.S := rfl
@[simp] theorem setResponses_RSP : (s.setResponses v).RSP = s.RSP := rfl
@[simp] theorem setResponses_ports : (s.setResponses v).ports = s.ports := rfl
@[simp] theorem setResponses_agenda : (s.setResponses v).agenda = s.agenda := rfl
@[simp] theorem setResponses_responses : (s.setResponses v).responses = v := rfl
end

end Sys2Proof.Machine.State
end

