-- ==== Sys2Proof/Laws/Words.lean ====
section
/-!
SUPPORT. What the Word operators answer as integers, and that Words of a width stay Words of that width.
-/

namespace Sys2Proof

@[simp] theorem Width.bits_pos (w : Width) : 0 < w.bits := by cases w <;> decide

theorem Width.bits_le (w : Width) : w.bits ≤ 128 := by cases w <;> decide

theorem Width.eight_le_bits (w : Width) : 8 ≤ w.bits := by cases w <;> decide

@[simp] theorem Width.bytes_pos (w : Width) : 0 < w.bytes := by cases w <;> decide

theorem Width.bytes_le (w : Width) : w.bytes ≤ 16 := by cases w <;> decide

theorem Width.bits_eq (w : Width) : w.bits = 8 * w.bytes := by cases w <;> rfl

theorem Width.modulus_le (w : Width) : 2 ^ w.bits ≤ 2 ^ 128 := Nat.pow_le_pow_right (by decide) w.bits_le

namespace Machine

/-- Narrowing as an integer. -/
@[simp] theorem toNat_narrow (w : Width) (x : Nat) : (narrow w x).toNat = x % 2 ^ w.bits := by
  have h1 := Nat.mod_lt x (Nat.two_pow_pos w.bits)
  have h2 := w.modulus_le
  simp only [narrow, BitVec.toNat_ofNat]
  exact Nat.mod_eq_of_lt (by omega)

/-- Whatever is narrowed is a Word. -/
theorem isWord_narrow (w : Width) (x : Nat) : IsWord w (narrow w x) := by
  simp only [IsWord, toNat_narrow]
  exact Nat.mod_lt _ (Nat.two_pow_pos _)

/-- A Word narrows to itself. -/
theorem narrow_toNat {w : Width} {x : Carrier} (h : IsWord w x) : narrow w x.toNat = x := by
  apply BitVec.eq_of_toNat_eq
  rw [toNat_narrow, Nat.mod_eq_of_lt h]

theorem portWord_eq {w : Width} {x : Carrier} (h : IsWord w x) : portWord w x = x := narrow_toNat h

theorem isWord_portWord (w : Width) (x : Carrier) : IsWord w (portWord w x) := isWord_narrow w _

/-- The port check of 30_encoding.md R81 tests that the port carries a Word. -/
theorem fitsWord_iff (w : Width) (x : Carrier) : fitsWord w x = true ↔ IsWord w x := by
  have hx := x.isLt
  simp only [fitsWord, beq_iff_eq, IsWord]
  rw [← BitVec.toNat_inj]
  simp only [BitVec.toNat_ushiftRight, Nat.shiftRight_eq_div_pow, BitVec.toNat_ofNat, Nat.zero_mod]
  rw [Nat.div_eq_zero_iff]
  have := Nat.two_pow_pos w.bits
  omega

theorem isWord_zero (w : Width) : IsWord w 0 := Nat.two_pow_pos _

theorem isWord_wadd (w : Width) (a b : Carrier) : IsWord w (wadd w a b) := isWord_narrow w _

theorem isWord_wsub (w : Width) (a b : Carrier) : IsWord w (wsub w a b) := isWord_narrow w _

theorem isWord_shl8 (w : Width) (a : Carrier) : IsWord w (shl8 w a) := isWord_narrow w _

theorem isWord_romP (w : Width) : IsWord w (romP w) := by cases w <;> decide

theorem isWord_romQ (w : Width) : IsWord w (romQ w) := by cases w <;> decide

/-- The exclusive or of two Words of a width is one. -/
theorem isWord_wxor {w : Width} {a b : Carrier} (ha : IsWord w a) (hb : IsWord w b) : IsWord w (wxor a b) := by
  simp only [IsWord, wxor, BitVec.toNat_xor]
  exact Nat.xor_lt_two_pow ha hb

/-- The rotation amount is below the width. -/
theorem rotAmount_lt (w : Width) (s : Carrier) : rotAmount w s < w.bits := Nat.mod_lt _ w.bits_pos

/-- The two parts of a left rotation fit side by side. -/
theorem rotl_parts_lt {m k x : Nat} (hx : x < 2 ^ (m + k)) :
    x * 2 ^ m % 2 ^ (m + k) + x / 2 ^ k < 2 ^ (m + k) := by
  have hk := Nat.two_pow_pos k
  have hm := Nat.two_pow_pos m
  rw [Nat.pow_add] at *
  have hq : x / 2 ^ k < 2 ^ m := (Nat.div_lt_iff_lt_mul hk).2 hx
  have hp : x % 2 ^ k < 2 ^ k := Nat.mod_lt _ hk
  have e : x * 2 ^ m % (2 ^ m * 2 ^ k) = x % 2 ^ k * 2 ^ m := by
    rw [Nat.mul_comm (2 ^ m), Nat.mul_mod_mul_right]
  rw [e]
  have := Nat.mul_le_mul_right (2 ^ m) (Nat.succ_le_of_lt hp)
  rw [Nat.succ_mul, Nat.mul_comm (2 ^ k)] at this
  omega

/-- The two parts of a right rotation fit side by side. -/
theorem rotr_parts_lt {m k x : Nat} (hx : x < 2 ^ (m + k)) :
    x / 2 ^ m + x % 2 ^ m * 2 ^ k < 2 ^ (m + k) := by
  have hm := Nat.two_pow_pos m
  have hk := Nat.two_pow_pos k
  rw [Nat.pow_add] at *
  have hq : x / 2 ^ m < 2 ^ k := (Nat.div_lt_iff_lt_mul hm).2 (by rwa [Nat.mul_comm])
  have hp : x % 2 ^ m < 2 ^ m := Nat.mod_lt _ hm
  have := Nat.mul_le_mul_right (2 ^ k) (Nat.succ_le_of_lt hp)
  rw [Nat.succ_mul] at this
  omega

/-- A left rotation as an integer (41_rotate.md Pseudocode R111). -/
theorem toNat_rotl {w : Width} {x : Carrier} (hx : IsWord w x) (s : Carrier) :
    (rotl w x s).toNat =
      if rotAmount w s = 0 then x.toNat
      else x.toNat * 2 ^ rotAmount w s % 2 ^ w.bits + x.toNat / 2 ^ (w.bits - rotAmount w s) := by
  simp only [rotl]
  split
  · rfl
  · have hm := rotAmount_lt w s
    have e : w.bits = rotAmount w s + (w.bits - rotAmount w s) := by omega
    have hlt := rotl_parts_lt (m := rotAmount w s) (k := w.bits - rotAmount w s) (x := x.toNat) (by rw [← e]; exact hx)
    rw [← e] at hlt
    have := w.modulus_le
    simp only [BitVec.toNat_ofNat]
    exact Nat.mod_eq_of_lt (by omega)

/-- A right rotation as an integer (41_rotate.md Pseudocode R112). -/
theorem toNat_rotr {w : Width} {x : Carrier} (hx : IsWord w x) (s : Carrier) :
    (rotr w x s).toNat =
      if rotAmount w s = 0 then x.toNat
      else x.toNat / 2 ^ rotAmount w s + x.toNat % 2 ^ rotAmount w s * 2 ^ (w.bits - rotAmount w s) := by
  simp only [rotr]
  split
  · rfl
  · have hm := rotAmount_lt w s
    have e : w.bits = rotAmount w s + (w.bits - rotAmount w s) := by omega
    have hlt := rotr_parts_lt (m := rotAmount w s) (k := w.bits - rotAmount w s) (x := x.toNat) (by rw [← e]; exact hx)
    rw [← e] at hlt
    have := w.modulus_le
    simp only [BitVec.toNat_ofNat]
    exact Nat.mod_eq_of_lt (by omega)

theorem isWord_rotl {w : Width} {x : Carrier} (hx : IsWord w x) (s : Carrier) : IsWord w (rotl w x s) := by
  have hm := rotAmount_lt w s
  have e : rotAmount w s + (w.bits - rotAmount w s) = w.bits := by omega
  have hlt := rotl_parts_lt (m := rotAmount w s) (k := w.bits - rotAmount w s) (x := x.toNat) (by rw [e]; exact hx)
  rw [e] at hlt
  simp only [IsWord, toNat_rotl hx]
  split
  · exact hx
  · exact hlt

theorem isWord_rotr {w : Width} {x : Carrier} (hx : IsWord w x) (s : Carrier) : IsWord w (rotr w x s) := by
  have hm := rotAmount_lt w s
  have e : rotAmount w s + (w.bits - rotAmount w s) = w.bits := by omega
  have hlt := rotr_parts_lt (m := rotAmount w s) (k := w.bits - rotAmount w s) (x := x.toNat) (by rw [e]; exact hx)
  rw [e] at hlt
  simp only [IsWord, toNat_rotr hx]
  split
  · exact hx
  · exact hlt

/-! ### Memories of Words -/

/-- A cell of a memory of Words reads as a Word. -/
theorem isWord_read {w : Width} {cells : Memory 128} (h : Memory.Words w cells) (a : Nat) :
    IsWord w (Memory.read cells a) := by
  induction cells with
  | nil => exact isWord_zero w
  | cons c cells ih =>
    simp only [Memory.read]
    split
    · exact h c (List.mem_cons_self ..)
    · exact ih fun d hd => h d (List.mem_cons_of_mem _ hd)

/-- Writing a Word keeps a memory of Words. -/
theorem words_write {w : Width} {cells : Memory 128} (h : Memory.Words w cells) (a : Nat) {v : Carrier}
    (hv : IsWord w v) : Memory.Words w (Memory.write cells a v) := fun c hc => by
  rcases Memory.mem_write cells a v hc with hc | rfl
  · exact h c hc
  · exact hv

/-- Clearing keeps a memory of Words. -/
theorem words_clear {w : Width} {cells : Memory 128} (h : Memory.Words w cells) (count : Nat) :
    Memory.Words w (Memory.clear count cells) := by
  unfold Memory.clear
  induction count with
  | zero => simpa using h
  | succ count ih =>
    rw [List.range_succ, List.foldl_append]
    exact words_write ih _ (isWord_zero w)

/-! ### The derived sizes (00_scope.md Table R8-a) -/

theorem keyWords_pos (w : Width) (b : Nat) : 0 < keyWords w b := by
  simp only [keyWords]
  omega

/-- The packed key fits the `L` memory. -/
theorem keyWords_le {b : Nat} (hb : b ≤ 255) (w : Width) : keyWords w b ≤ 255 := by
  cases w <;> simp only [keyWords, Width.bits] <;> omega

/-- The Word of a key byte is one of the packed key. -/
theorem div_bytes_lt_keyWords (w : Width) {b h : Nat} (hh : h < b) : h / w.bytes < keyWords w b := by
  cases w <;> simp [keyWords, Width.bytes, Width.bits] <;> omega

theorem tableSize_ge (r : Nat) : 2 ≤ tableSize r := by
  simp only [tableSize]
  omega

/-- The subkey table fits the `S` memory. -/
theorem tableSize_le {r : Nat} (hr : r ≤ 255) : tableSize r ≤ 512 := by
  simp only [tableSize]
  omega

theorem mixCount_le {b r : Nat} (hb : b ≤ 255) (hr : r ≤ 255) (w : Width) : mixCount w b r ≤ 1536 := by
  have h1 := keyWords_le hb w
  have h2 := tableSize_le hr
  simp only [mixCount]
  omega

theorem mixCount_pos (w : Width) (b r : Nat) : 0 < mixCount w b r := by
  have h1 := keyWords_pos w b
  simp only [mixCount]
  omega

end Machine

end Sys2Proof
end

