-- ==== Sys2Proof/Laws/Ops.lean ====
section
/-!
SUPPORT. One lemma for each shared operation of a command's life, saying once what it does.
-/

namespace Sys2Proof.Machine

/-- Clearing the engine leaves the host's side alone and zeroes everything else. -/
theorem clearEngine_eq (s : State) :
    clearEngine s =
      { State.reset with ports := s.ports, agenda := s.agenda, responses := s.responses } := rfl

/-- Completion delivers the response that stands in `RSP` and leaves the engine quiet. -/
theorem complete_eq (s : State) : complete s = s.afterResponse s.RSP := rfl

/-- A quiet engine is one that clearing does not change. -/
theorem quiet_iff (s : State) : s.Quiet ↔ clearEngine s = s := by
  constructor
  · rintro ⟨h1, h2, h3, h4, h5, h6, h7, h8, h9, h10, h11, h12, h13⟩
    cases s
    subst h1 h2 h3 h4 h5 h6 h7 h8 h9 h10 h11 h12 h13
    rfl
  · intro h
    rw [← h]
    exact ⟨rfl, rfl, rfl, rfl, rfl, rfl, rfl, rfl, rfl, rfl, rfl, rfl, rfl⟩

theorem quiet_clearEngine (s : State) : (clearEngine s).Quiet :=
  ⟨rfl, rfl, rfl, rfl, rfl, rfl, rfl, rfl, rfl, rfl, rfl, rfl, rfl⟩

theorem quiet_complete (s : State) : (complete s).Quiet :=
  ⟨rfl, rfl, rfl, rfl, rfl, rfl, rfl, rfl, rfl, rfl, rfl, rfl, rfl⟩

section
variable (s t : State) (rsp : Response)
@[simp] theorem afterResponse_ST : (s.afterResponse rsp).ST = .idle := rfl
@[simp] theorem afterResponse_PH : (s.afterResponse rsp).PH = .idle := rfl
@[simp] theorem afterResponse_RQ : (s.afterResponse rsp).RQ = Request.zero := rfl
@[simp] theorem afterResponse_L : (s.afterResponse rsp).L = [] := rfl
@[simp] theorem afterResponse_S : (s.afterResponse rsp).S = [] := rfl
@[simp] theorem afterResponse_ports : (s.afterResponse rsp).ports = s.ports := rfl
@[simp] theorem afterResponse_agenda : (s.afterResponse rsp).agenda = s.agenda := rfl
@[simp] theorem afterResponse_responses : (s.afterResponse rsp).responses = s.responses ++ [rsp] := rfl

/-- Two states with the same host's side go on alike after the same response. -/
theorem afterResponse_congr (hp : s.ports = t.ports) (ha : s.agenda = t.agenda)
    (hr : s.responses = t.responses) : s.afterResponse rsp = t.afterResponse rsp := by
  simp only [State.afterResponse, hp, ha, hr]

/-- Two responses delivered to one state that leave it equal are the same. -/
theorem afterResponse_inj {rsp' : Response} (h : s.afterResponse rsp = s.afterResponse rsp') : rsp = rsp' := by
  have := congrArg State.responses h
  simpa using this
end

section
variable (e : Status) (s : State)
@[simp] theorem reject_RSP : (reject e s).RSP = Response.error e := rfl
@[simp] theorem reject_PH : (reject e s).PH = .finish := rfl
@[simp] theorem reject_ST : (reject e s).ST = s.ST := rfl
@[simp] theorem reject_RQ : (reject e s).RQ = s.RQ := rfl
@[simp] theorem reject_ports : (reject e s).ports = s.ports := rfl
@[simp] theorem reject_agenda : (reject e s).agenda = s.agenda := rfl
@[simp] theorem reject_responses : (reject e s).responses = s.responses := rfl
@[simp] theorem passCheck_RSP : (passCheck s).RSP = Response.zero := rfl
@[simp] theorem passCheck_RQ : (passCheck s).RQ = s.RQ := rfl
@[simp] theorem passCheck_ports : (passCheck s).ports = s.ports := rfl
@[simp] theorem passCheck_agenda : (passCheck s).agenda = s.agenda := rfl
@[simp] theorem passCheck_responses : (passCheck s).responses = s.responses := rfl
@[simp] theorem answer_RSP (rsp : Response) : (answer rsp s).RSP = rsp := rfl
@[simp] theorem answer_PH (rsp : Response) : (answer rsp s).PH = .finish := rfl
@[simp] theorem answer_RQ (rsp : Response) : (answer rsp s).RQ = s.RQ := rfl
@[simp] theorem answer_ports (rsp : Response) : (answer rsp s).ports = s.ports := rfl
@[simp] theorem answer_agenda (rsp : Response) : (answer rsp s).agenda = s.agenda := rfl
@[simp] theorem answer_responses (rsp : Response) : (answer rsp s).responses = s.responses := rfl
end

/-- The host's side of a state: what no work of a command touches. -/
def SameHost (s t : State) : Prop := s.ports = t.ports ∧ s.agenda = t.agenda ∧ s.responses = t.responses

/-- A command with a failing check answers that check's status and nothing else. -/
theorem command_error (e : Status) (work : State → State) (s : State) :
    command (some e) work s = .next (s.afterResponse (Response.error e)) := rfl

/-- A command whose checks pass answers what its work leaves in `RSP`, when the work leaves the host's side
alone. -/
theorem command_ok {work : State → State} {s : State} (h : SameHost (work (passCheck s)) s) :
    command none work s = .next (s.afterResponse (work (passCheck s)).RSP) := by
  obtain ⟨hp, ha, hr⟩ := h
  show Host.Outcome.next ((work (passCheck s)).afterResponse (work (passCheck s)).RSP) = _
  rw [afterResponse_congr _ _ _ hp ha hr]

/-- Acceptance copies the request into the latch and touches nothing else but `ST` and `PH`. -/
theorem accept_fields (s : State) :
    (accept s).ST = .busy ∧ (accept s).PH = .check ∧ (accept s).RQ.CMD = s.ports.CMD ∧
    (accept s).RQ.X0 = s.ports.X0 ∧ (accept s).RQ.X1 = s.ports.X1 ∧
    (∀ a < Config.bufDepth, Memory.read (accept s).RQ.BUF a = Memory.read s.ports.BUF a) ∧
    Memory.wf Config.bufDepth (accept s).RQ.BUF := by
  simp only [accept, State.setPH_ST, State.setST_ST, State.setPH_PH, State.setPH_RQ, State.setST_RQ,
    State.setRQ_RQ, Memory.read_copy, true_and]
  exact ⟨fun a ha => if_pos ha, Memory.wf_copy _ _⟩

end Sys2Proof.Machine
end

