-- ==== Sys2Proof/Laws/PerInstr.lean ====
section
/-!
SUPPORT. What is said of every command as syntax, one lemma for each constructor: the five fields of its command
word are its own.
-/

namespace Sys2Proof.Laws.EncodedFields

/-- The word of a well-formed command holds its operation code, its width, a zero reserved bit, its count and
its round count (30_encoding.md R71). -/
def Statement (i : Instr) : Prop :=
  i.wf = true →
    opField (encode i) = i.opcode ∧ wselField (encode i) = i.width.sel ∧ z7Field (encode i) = 0 ∧
    nField (encode i) = i.nOperand ∧ rField (encode i) = i.rOperand

theorem add (w : Width) : Statement (.add w) := fun _ =>
  fields_packFields w (Instr.opcode_lt (.add w)) (n := 0) (r := 0) (by decide) (by decide)

theorem sub (w : Width) : Statement (.sub w) := fun _ =>
  fields_packFields w (Instr.opcode_lt (.sub w)) (n := 0) (r := 0) (by decide) (by decide)

theorem rotl (w : Width) : Statement (.rotl w) := fun _ =>
  fields_packFields w (Instr.opcode_lt (.rotl w)) (n := 0) (r := 0) (by decide) (by decide)

theorem rotr (w : Width) : Statement (.rotr w) := fun _ =>
  fields_packFields w (Instr.opcode_lt (.rotr w)) (n := 0) (r := 0) (by decide) (by decide)

theorem tole (w : Width) : Statement (.tole w) := fun _ =>
  fields_packFields w (Instr.opcode_lt (.tole w)) (n := 0) (r := 0) (by decide) (by decide)

theorem fromle (w : Width) (n : Nat) : Statement (.fromle w n) := fun h =>
  fields_packFields w (Instr.opcode_lt (.fromle w n)) (of_decide_eq_true h) (r := 0) (by decide)

theorem const (w : Width) (sel : ConstSel) : Statement (.const w sel) := fun _ =>
  fields_packFields w (Instr.opcode_lt (.const w sel)) sel.code_lt (r := 0) (by decide)

theorem expkey (w : Width) (n : Nat) (r : Nat) : Statement (.expkey w n r) := fun h =>
  fields_packFields w (Instr.opcode_lt (.expkey w n r)) (of_decide_eq_true (Bool.and_eq_true_iff.1 h).1)
    (of_decide_eq_true (Bool.and_eq_true_iff.1 h).2)

theorem enc (w : Width) (n : Nat) (r : Nat) : Statement (.enc w n r) := fun h =>
  fields_packFields w (Instr.opcode_lt (.enc w n r)) (of_decide_eq_true (Bool.and_eq_true_iff.1 h).1)
    (of_decide_eq_true (Bool.and_eq_true_iff.1 h).2)

theorem dec (w : Width) (n : Nat) (r : Nat) : Statement (.dec w n r) := fun h =>
  fields_packFields w (Instr.opcode_lt (.dec w n r)) (of_decide_eq_true (Bool.and_eq_true_iff.1 h).1)
    (of_decide_eq_true (Bool.and_eq_true_iff.1 h).2)

end Sys2Proof.Laws.EncodedFields
end

