-- ==== Sys2Proof/Laws/Phases.lean ====
section
/-!
SUPPORT. The frames of the phases: which fields each phase entry and each iteration leaves as they were, and that
the work of a command leaves its request and the host's side alone.
-/

namespace Sys2Proof.Machine

/-- What one move keeps, any number of them keeps. -/
theorem iterate_keeps {α β : Type} (f : α → α) (g : α → β) (h : ∀ a, g (f a) = g a) (count : Nat) (a : α) :
    g (f^[count] a) = g a := by
  induction count generalizing a with
  | zero => rfl
  | succ count ih => rw [Function.iterate_succ_apply, ih, h]

variable (w : Width) (n r : Nat) (s : State)

/-! ### Phase entries and iterations -/

section enterPack
@[simp] theorem enterPack_ST : (enterPack w n s).ST = s.ST := rfl
@[simp] theorem enterPack_RQ : (enterPack w n s).RQ = s.RQ := rfl
@[simp] theorem enterPack_A : (enterPack w n s).A = s.A := rfl
@[simp] theorem enterPack_B : (enterPack w n s).B = s.B := rfl
@[simp] theorem enterPack_i : (enterPack w n s).i = s.i := rfl
@[simp] theorem enterPack_j : (enterPack w n s).j = s.j := rfl
@[simp] theorem enterPack_k : (enterPack w n s).k = s.k := rfl
@[simp] theorem enterPack_rnd : (enterPack w n s).rnd = s.rnd := rfl
@[simp] theorem enterPack_S : (enterPack w n s).S = s.S := rfl
@[simp] theorem enterPack_RSP : (enterPack w n s).RSP = s.RSP := rfl
@[simp] theorem enterPack_ports : (enterPack w n s).ports = s.ports := rfl
@[simp] theorem enterPack_agenda : (enterPack w n s).agenda = s.agenda := rfl
@[simp] theorem enterPack_responses : (enterPack w n s).responses = s.responses := rfl
end enterPack

section packIter
@[simp] theorem packIter_ST : (packIter w s).ST = s.ST := rfl
@[simp] theorem packIter_PH : (packIter w s).PH = s.PH := rfl
@[simp] theorem packIter_RQ : (packIter w s).RQ = s.RQ := rfl
@[simp] theorem packIter_A : (packIter w s).A = s.A := rfl
@[simp] theorem packIter_B : (packIter w s).B = s.B := rfl
@[simp] theorem packIter_i : (packIter w s).i = s.i := rfl
@[simp] theorem packIter_j : (packIter w s).j = s.j := rfl
@[simp] theorem packIter_k : (packIter w s).k = s.k := rfl
@[simp] theorem packIter_rnd : (packIter w s).rnd = s.rnd := rfl
@[simp] theorem packIter_S : (packIter w s).S = s.S := rfl
@[simp] theorem packIter_RSP : (packIter w s).RSP = s.RSP := rfl
@[simp] theorem packIter_ports : (packIter w s).ports = s.ports := rfl
@[simp] theorem packIter_agenda : (packIter w s).agenda = s.agenda := rfl
@[simp] theorem packIter_responses : (packIter w s).responses = s.responses := rfl
end packIter

section enterInit
@[simp] theorem enterInit_ST : (enterInit w s).ST = s.ST := rfl
@[simp] theorem enterInit_RQ : (enterInit w s).RQ = s.RQ := rfl
@[simp] theorem enterInit_A : (enterInit w s).A = s.A := rfl
@[simp] theorem enterInit_B : (enterInit w s).B = s.B := rfl
@[simp] theorem enterInit_j : (enterInit w s).j = s.j := rfl
@[simp] theorem enterInit_k : (enterInit w s).k = s.k := rfl
@[simp] theorem enterInit_h : (enterInit w s).h = s.h := rfl
@[simp] theorem enterInit_rnd : (enterInit w s).rnd = s.rnd := rfl
@[simp] theorem enterInit_L : (enterInit w s).L = s.L := rfl
@[simp] theorem enterInit_RSP : (enterInit w s).RSP = s.RSP := rfl
@[simp] theorem enterInit_ports : (enterInit w s).ports = s.ports := rfl
@[simp] theorem enterInit_agenda : (enterInit w s).agenda = s.agenda := rfl
@[simp] theorem enterInit_responses : (enterInit w s).responses = s.responses := rfl
end enterInit

section initIter
@[simp] theorem initIter_ST : (initIter w r s).ST = s.ST := rfl
@[simp] theorem initIter_PH : (initIter w r s).PH = s.PH := rfl
@[simp] theorem initIter_RQ : (initIter w r s).RQ = s.RQ := rfl
@[simp] theorem initIter_A : (initIter w r s).A = s.A := rfl
@[simp] theorem initIter_B : (initIter w r s).B = s.B := rfl
@[simp] theorem initIter_j : (initIter w r s).j = s.j := rfl
@[simp] theorem initIter_k : (initIter w r s).k = s.k := rfl
@[simp] theorem initIter_h : (initIter w r s).h = s.h := rfl
@[simp] theorem initIter_rnd : (initIter w r s).rnd = s.rnd := rfl
@[simp] theorem initIter_L : (initIter w r s).L = s.L := rfl
@[simp] theorem initIter_RSP : (initIter w r s).RSP = s.RSP := rfl
@[simp] theorem initIter_ports : (initIter w r s).ports = s.ports := rfl
@[simp] theorem initIter_agenda : (initIter w r s).agenda = s.agenda := rfl
@[simp] theorem initIter_responses : (initIter w r s).responses = s.responses := rfl
end initIter

section enterMix
@[simp] theorem enterMix_ST : (enterMix s).ST = s.ST := rfl
@[simp] theorem enterMix_RQ : (enterMix s).RQ = s.RQ := rfl
@[simp] theorem enterMix_h : (enterMix s).h = s.h := rfl
@[simp] theorem enterMix_rnd : (enterMix s).rnd = s.rnd := rfl
@[simp] theorem enterMix_L : (enterMix s).L = s.L := rfl
@[simp] theorem enterMix_S : (enterMix s).S = s.S := rfl
@[simp] theorem enterMix_RSP : (enterMix s).RSP = s.RSP := rfl
@[simp] theorem enterMix_ports : (enterMix s).ports = s.ports := rfl
@[simp] theorem enterMix_agenda : (enterMix s).agenda = s.agenda := rfl
@[simp] theorem enterMix_responses : (enterMix s).responses = s.responses := rfl
end enterMix

section mixTable
@[simp] theorem mixTable_ST : (mixTable w s).ST = s.ST := rfl
@[simp] theorem mixTable_PH : (mixTable w s).PH = s.PH := rfl
@[simp] theorem mixTable_RQ : (mixTable w s).RQ = s.RQ := rfl
@[simp] theorem mixTable_B : (mixTable w s).B = s.B := rfl
@[simp] theorem mixTable_i : (mixTable w s).i = s.i := rfl
@[simp] theorem mixTable_j : (mixTable w s).j = s.j := rfl
@[simp] theorem mixTable_k : (mixTable w s).k = s.k := rfl
@[simp] theorem mixTable_h : (mixTable w s).h = s.h := rfl
@[simp] theorem mixTable_rnd : (mixTable w s).rnd = s.rnd := rfl
@[simp] theorem mixTable_L : (mixTable w s).L = s.L := rfl
@[simp] theorem mixTable_RSP : (mixTable w s).RSP = s.RSP := rfl
@[simp] theorem mixTable_ports : (mixTable w s).ports = s.ports := rfl
@[simp] theorem mixTable_agenda : (mixTable w s).agenda = s.agenda := rfl
@[simp] theorem mixTable_responses : (mixTable w s).responses = s.responses := rfl
end mixTable

section mixKey
@[simp] theorem mixKey_ST : (mixKey w s).ST = s.ST := rfl
@[simp] theorem mixKey_PH : (mixKey w s).PH = s.PH := rfl
@[simp] theorem mixKey_RQ : (mixKey w s).RQ = s.RQ := rfl
@[simp] theorem mixKey_A : (mixKey w s).A = s.A := rfl
@[simp] theorem mixKey_i : (mixKey w s).i = s.i := rfl
@[simp] theorem mixKey_j : (mixKey w s).j = s.j := rfl
@[simp] theorem mixKey_k : (mixKey w s).k = s.k := rfl
@[simp] theorem mixKey_h : (mixKey w s).h = s.h := rfl
@[simp] theorem mixKey_rnd : (mixKey w s).rnd = s.rnd := rfl
@[simp] theorem mixKey_S : (mixKey w s).S = s.S := rfl
@[simp] theorem mixKey_RSP : (mixKey w s).RSP = s.RSP := rfl
@[simp] theorem mixKey_ports : (mixKey w s).ports = s.ports := rfl
@[simp] theorem mixKey_agenda : (mixKey w s).agenda = s.agenda := rfl
@[simp] theorem mixKey_responses : (mixKey w s).responses = s.responses := rfl
end mixKey

section mixAdvance
@[simp] theorem mixAdvance_ST : (mixAdvance w n r s).ST = s.ST := rfl
@[simp] theorem mixAdvance_PH : (mixAdvance w n r s).PH = s.PH := rfl
@[simp] theorem mixAdvance_RQ : (mixAdvance w n r s).RQ = s.RQ := rfl
@[simp] theorem mixAdvance_A : (mixAdvance w n r s).A = s.A := rfl
@[simp] theorem mixAdvance_B : (mixAdvance w n r s).B = s.B := rfl
@[simp] theorem mixAdvance_h : (mixAdvance w n r s).h = s.h := rfl
@[simp] theorem mixAdvance_rnd : (mixAdvance w n r s).rnd = s.rnd := rfl
@[simp] theorem mixAdvance_L : (mixAdvance w n r s).L = s.L := rfl
@[simp] theorem mixAdvance_S : (mixAdvance w n r s).S = s.S := rfl
@[simp] theorem mixAdvance_RSP : (mixAdvance w n r s).RSP = s.RSP := rfl
@[simp] theorem mixAdvance_ports : (mixAdvance w n r s).ports = s.ports := rfl
@[simp] theorem mixAdvance_agenda : (mixAdvance w n r s).agenda = s.agenda := rfl
@[simp] theorem mixAdvance_responses : (mixAdvance w n r s).responses = s.responses := rfl
end mixAdvance

section tableResponse
@[simp] theorem tableResponse_ST : (tableResponse r s).ST = s.ST := rfl
@[simp] theorem tableResponse_PH : (tableResponse r s).PH = s.PH := rfl
@[simp] theorem tableResponse_RQ : (tableResponse r s).RQ = s.RQ := rfl
@[simp] theorem tableResponse_A : (tableResponse r s).A = s.A := rfl
@[simp] theorem tableResponse_B : (tableResponse r s).B = s.B := rfl
@[simp] theorem tableResponse_i : (tableResponse r s).i = s.i := rfl
@[simp] theorem tableResponse_j : (tableResponse r s).j = s.j := rfl
@[simp] theorem tableResponse_k : (tableResponse r s).k = s.k := rfl
@[simp] theorem tableResponse_h : (tableResponse r s).h = s.h := rfl
@[simp] theorem tableResponse_rnd : (tableResponse r s).rnd = s.rnd := rfl
@[simp] theorem tableResponse_L : (tableResponse r s).L = s.L := rfl
@[simp] theorem tableResponse_S : (tableResponse r s).S = s.S := rfl
@[simp] theorem tableResponse_ports : (tableResponse r s).ports = s.ports := rfl
@[simp] theorem tableResponse_agenda : (tableResponse r s).agenda = s.agenda := rfl
@[simp] theorem tableResponse_responses : (tableResponse r s).responses = s.responses := rfl
end tableResponse

section prePhase
@[simp] theorem prePhase_ST : (prePhase w s).ST = s.ST := rfl
@[simp] theorem prePhase_RQ : (prePhase w s).RQ = s.RQ := rfl
@[simp] theorem prePhase_i : (prePhase w s).i = s.i := rfl
@[simp] theorem prePhase_j : (prePhase w s).j = s.j := rfl
@[simp] theorem prePhase_k : (prePhase w s).k = s.k := rfl
@[simp] theorem prePhase_h : (prePhase w s).h = s.h := rfl
@[simp] theorem prePhase_L : (prePhase w s).L = s.L := rfl
@[simp] theorem prePhase_S : (prePhase w s).S = s.S := rfl
@[simp] theorem prePhase_RSP : (prePhase w s).RSP = s.RSP := rfl
@[simp] theorem prePhase_ports : (prePhase w s).ports = s.ports := rfl
@[simp] theorem prePhase_agenda : (prePhase w s).agenda = s.agenda := rfl
@[simp] theorem prePhase_responses : (prePhase w s).responses = s.responses := rfl
end prePhase

section encHalfA
@[simp] theorem encHalfA_ST : (encHalfA w s).ST = s.ST := rfl
@[simp] theorem encHalfA_PH : (encHalfA w s).PH = s.PH := rfl
@[simp] theorem encHalfA_RQ : (encHalfA w s).RQ = s.RQ := rfl
@[simp] theorem encHalfA_B : (encHalfA w s).B = s.B := rfl
@[simp] theorem encHalfA_i : (encHalfA w s).i = s.i := rfl
@[simp] theorem encHalfA_j : (encHalfA w s).j = s.j := rfl
@[simp] theorem encHalfA_k : (encHalfA w s).k = s.k := rfl
@[simp] theorem encHalfA_h : (encHalfA w s).h = s.h := rfl
@[simp] theorem encHalfA_rnd : (encHalfA w s).rnd = s.rnd := rfl
@[simp] theorem encHalfA_L : (encHalfA w s).L = s.L := rfl
@[simp] theorem encHalfA_S : (encHalfA w s).S = s.S := rfl
@[simp] theorem encHalfA_RSP : (encHalfA w s).RSP = s.RSP := rfl
@[simp] theorem encHalfA_ports : (encHalfA w s).ports = s.ports := rfl
@[simp] theorem encHalfA_agenda : (encHalfA w s).agenda = s.agenda := rfl
@[simp] theorem encHalfA_responses : (encHalfA w s).responses = s.responses := rfl
end encHalfA

section encHalfB
@[simp] theorem encHalfB_ST : (encHalfB w s).ST = s.ST := rfl
@[simp] theorem encHalfB_PH : (encHalfB w s).PH = s.PH := rfl
@[simp] theorem encHalfB_RQ : (encHalfB w s).RQ = s.RQ := rfl
@[simp] theorem encHalfB_A : (encHalfB w s).A = s.A := rfl
@[simp] theorem encHalfB_i : (encHalfB w s).i = s.i := rfl
@[simp] theorem encHalfB_j : (encHalfB w s).j = s.j := rfl
@[simp] theorem encHalfB_k : (encHalfB w s).k = s.k := rfl
@[simp] theorem encHalfB_h : (encHalfB w s).h = s.h := rfl
@[simp] theorem encHalfB_rnd : (encHalfB w s).rnd = s.rnd := rfl
@[simp] theorem encHalfB_L : (encHalfB w s).L = s.L := rfl
@[simp] theorem encHalfB_S : (encHalfB w s).S = s.S := rfl
@[simp] theorem encHalfB_RSP : (encHalfB w s).RSP = s.RSP := rfl
@[simp] theorem encHalfB_ports : (encHalfB w s).ports = s.ports := rfl
@[simp] theorem encHalfB_agenda : (encHalfB w s).agenda = s.agenda := rfl
@[simp] theorem encHalfB_responses : (encHalfB w s).responses = s.responses := rfl
end encHalfB

section enterDecRounds
@[simp] theorem enterDecRounds_ST : (enterDecRounds w r s).ST = s.ST := rfl
@[simp] theorem enterDecRounds_RQ : (enterDecRounds w r s).RQ = s.RQ := rfl
@[simp] theorem enterDecRounds_i : (enterDecRounds w r s).i = s.i := rfl
@[simp] theorem enterDecRounds_j : (enterDecRounds w r s).j = s.j := rfl
@[simp] theorem enterDecRounds_k : (enterDecRounds w r s).k = s.k := rfl
@[simp] theorem enterDecRounds_h : (enterDecRounds w r s).h = s.h := rfl
@[simp] theorem enterDecRounds_L : (enterDecRounds w r s).L = s.L := rfl
@[simp] theorem enterDecRounds_S : (enterDecRounds w r s).S = s.S := rfl
@[simp] theorem enterDecRounds_RSP : (enterDecRounds w r s).RSP = s.RSP := rfl
@[simp] theorem enterDecRounds_ports : (enterDecRounds w r s).ports = s.ports := rfl
@[simp] theorem enterDecRounds_agenda : (enterDecRounds w r s).agenda = s.agenda := rfl
@[simp] theorem enterDecRounds_responses : (enterDecRounds w r s).responses = s.responses := rfl
end enterDecRounds

section decHalfA
@[simp] theorem decHalfA_ST : (decHalfA w s).ST = s.ST := rfl
@[simp] theorem decHalfA_PH : (decHalfA w s).PH = s.PH := rfl
@[simp] theorem decHalfA_RQ : (decHalfA w s).RQ = s.RQ := rfl
@[simp] theorem decHalfA_B : (decHalfA w s).B = s.B := rfl
@[simp] theorem decHalfA_i : (decHalfA w s).i = s.i := rfl
@[simp] theorem decHalfA_j : (decHalfA w s).j = s.j := rfl
@[simp] theorem decHalfA_k : (decHalfA w s).k = s.k := rfl
@[simp] theorem decHalfA_h : (decHalfA w s).h = s.h := rfl
@[simp] theorem decHalfA_rnd : (decHalfA w s).rnd = s.rnd := rfl
@[simp] theorem decHalfA_L : (decHalfA w s).L = s.L := rfl
@[simp] theorem decHalfA_S : (decHalfA w s).S = s.S := rfl
@[simp] theorem decHalfA_RSP : (decHalfA w s).RSP = s.RSP := rfl
@[simp] theorem decHalfA_ports : (decHalfA w s).ports = s.ports := rfl
@[simp] theorem decHalfA_agenda : (decHalfA w s).agenda = s.agenda := rfl
@[simp] theorem decHalfA_responses : (decHalfA w s).responses = s.responses := rfl
end decHalfA

section decHalfB
@[simp] theorem decHalfB_ST : (decHalfB w s).ST = s.ST := rfl
@[simp] theorem decHalfB_PH : (decHalfB w s).PH = s.PH := rfl
@[simp] theorem decHalfB_RQ : (decHalfB w s).RQ = s.RQ := rfl
@[simp] theorem decHalfB_A : (decHalfB w s).A = s.A := rfl
@[simp] theorem decHalfB_i : (decHalfB w s).i = s.i := rfl
@[simp] theorem decHalfB_j : (decHalfB w s).j = s.j := rfl
@[simp] theorem decHalfB_k : (decHalfB w s).k = s.k := rfl
@[simp] theorem decHalfB_h : (decHalfB w s).h = s.h := rfl
@[simp] theorem decHalfB_rnd : (decHalfB w s).rnd = s.rnd := rfl
@[simp] theorem decHalfB_L : (decHalfB w s).L = s.L := rfl
@[simp] theorem decHalfB_S : (decHalfB w s).S = s.S := rfl
@[simp] theorem decHalfB_RSP : (decHalfB w s).RSP = s.RSP := rfl
@[simp] theorem decHalfB_ports : (decHalfB w s).ports = s.ports := rfl
@[simp] theorem decHalfB_agenda : (decHalfB w s).agenda = s.agenda := rfl
@[simp] theorem decHalfB_responses : (decHalfB w s).responses = s.responses := rfl
end decHalfB

section postPhase
@[simp] theorem postPhase_ST : (postPhase w s).ST = s.ST := rfl
@[simp] theorem postPhase_RQ : (postPhase w s).RQ = s.RQ := rfl
@[simp] theorem postPhase_i : (postPhase w s).i = s.i := rfl
@[simp] theorem postPhase_j : (postPhase w s).j = s.j := rfl
@[simp] theorem postPhase_k : (postPhase w s).k = s.k := rfl
@[simp] theorem postPhase_h : (postPhase w s).h = s.h := rfl
@[simp] theorem postPhase_rnd : (postPhase w s).rnd = s.rnd := rfl
@[simp] theorem postPhase_L : (postPhase w s).L = s.L := rfl
@[simp] theorem postPhase_S : (postPhase w s).S = s.S := rfl
@[simp] theorem postPhase_RSP : (postPhase w s).RSP = s.RSP := rfl
@[simp] theorem postPhase_ports : (postPhase w s).ports = s.ports := rfl
@[simp] theorem postPhase_agenda : (postPhase w s).agenda = s.agenda := rfl
@[simp] theorem postPhase_responses : (postPhase w s).responses = s.responses := rfl
end postPhase

section blockResponse
@[simp] theorem blockResponse_ST : (blockResponse s).ST = s.ST := rfl
@[simp] theorem blockResponse_PH : (blockResponse s).PH = s.PH := rfl
@[simp] theorem blockResponse_RQ : (blockResponse s).RQ = s.RQ := rfl
@[simp] theorem blockResponse_A : (blockResponse s).A = s.A := rfl
@[simp] theorem blockResponse_B : (blockResponse s).B = s.B := rfl
@[simp] theorem blockResponse_i : (blockResponse s).i = s.i := rfl
@[simp] theorem blockResponse_j : (blockResponse s).j = s.j := rfl
@[simp] theorem blockResponse_k : (blockResponse s).k = s.k := rfl
@[simp] theorem blockResponse_h : (blockResponse s).h = s.h := rfl
@[simp] theorem blockResponse_rnd : (blockResponse s).rnd = s.rnd := rfl
@[simp] theorem blockResponse_L : (blockResponse s).L = s.L := rfl
@[simp] theorem blockResponse_S : (blockResponse s).S = s.S := rfl
@[simp] theorem blockResponse_ports : (blockResponse s).ports = s.ports := rfl
@[simp] theorem blockResponse_agenda : (blockResponse s).agenda = s.agenda := rfl
@[simp] theorem blockResponse_responses : (blockResponse s).responses = s.responses := rfl
end blockResponse

section mixIter
@[simp] theorem mixIter_ST : (mixIter w n r s).ST = s.ST := by simp [mixIter]
@[simp] theorem mixIter_PH : (mixIter w n r s).PH = s.PH := by simp [mixIter]
@[simp] theorem mixIter_RQ : (mixIter w n r s).RQ = s.RQ := by simp [mixIter]
@[simp] theorem mixIter_h : (mixIter w n r s).h = s.h := by simp [mixIter]
@[simp] theorem mixIter_rnd : (mixIter w n r s).rnd = s.rnd := by simp [mixIter]
@[simp] theorem mixIter_RSP : (mixIter w n r s).RSP = s.RSP := by simp [mixIter]
@[simp] theorem mixIter_ports : (mixIter w n r s).ports = s.ports := by simp [mixIter]
@[simp] theorem mixIter_agenda : (mixIter w n r s).agenda = s.agenda := by simp [mixIter]
@[simp] theorem mixIter_responses : (mixIter w n r s).responses = s.responses := by simp [mixIter]
end mixIter

section encRound
@[simp] theorem encRound_ST : (encRound w r s).ST = s.ST := by simp [encRound]
@[simp] theorem encRound_PH : (encRound w r s).PH = s.PH := by simp [encRound]
@[simp] theorem encRound_RQ : (encRound w r s).RQ = s.RQ := by simp [encRound]
@[simp] theorem encRound_i : (encRound w r s).i = s.i := by simp [encRound]
@[simp] theorem encRound_j : (encRound w r s).j = s.j := by simp [encRound]
@[simp] theorem encRound_k : (encRound w r s).k = s.k := by simp [encRound]
@[simp] theorem encRound_h : (encRound w r s).h = s.h := by simp [encRound]
@[simp] theorem encRound_L : (encRound w r s).L = s.L := by simp [encRound]
@[simp] theorem encRound_S : (encRound w r s).S = s.S := by simp [encRound]
@[simp] theorem encRound_RSP : (encRound w r s).RSP = s.RSP := by simp [encRound]
@[simp] theorem encRound_ports : (encRound w r s).ports = s.ports := by simp [encRound]
@[simp] theorem encRound_agenda : (encRound w r s).agenda = s.agenda := by simp [encRound]
@[simp] theorem encRound_responses : (encRound w r s).responses = s.responses := by simp [encRound]
end encRound

section decRound
@[simp] theorem decRound_ST : (decRound w s).ST = s.ST := by simp [decRound]
@[simp] theorem decRound_PH : (decRound w s).PH = s.PH := by simp [decRound]
@[simp] theorem decRound_RQ : (decRound w s).RQ = s.RQ := by simp [decRound]
@[simp] theorem decRound_i : (decRound w s).i = s.i := by simp [decRound]
@[simp] theorem decRound_j : (decRound w s).j = s.j := by simp [decRound]
@[simp] theorem decRound_k : (decRound w s).k = s.k := by simp [decRound]
@[simp] theorem decRound_h : (decRound w s).h = s.h := by simp [decRound]
@[simp] theorem decRound_L : (decRound w s).L = s.L := by simp [decRound]
@[simp] theorem decRound_S : (decRound w s).S = s.S := by simp [decRound]
@[simp] theorem decRound_RSP : (decRound w s).RSP = s.RSP := by simp [decRound]
@[simp] theorem decRound_ports : (decRound w s).ports = s.ports := by simp [decRound]
@[simp] theorem decRound_agenda : (decRound w s).agenda = s.agenda := by simp [decRound]
@[simp] theorem decRound_responses : (decRound w s).responses = s.responses := by simp [decRound]
end decRound

/-! ### Whole phases -/

section packPhase
@[simp] theorem packPhase_ST : (packPhase w n s).ST = s.ST :=
  (iterate_keeps (packIter w) State.ST (packIter_ST w) _ _).trans (enterPack_ST w n s)
@[simp] theorem packPhase_RQ : (packPhase w n s).RQ = s.RQ :=
  (iterate_keeps (packIter w) State.RQ (packIter_RQ w) _ _).trans (enterPack_RQ w n s)
@[simp] theorem packPhase_A : (packPhase w n s).A = s.A :=
  (iterate_keeps (packIter w) State.A (packIter_A w) _ _).trans (enterPack_A w n s)
@[simp] theorem packPhase_B : (packPhase w n s).B = s.B :=
  (iterate_keeps (packIter w) State.B (packIter_B w) _ _).trans (enterPack_B w n s)
@[simp] theorem packPhase_i : (packPhase w n s).i = s.i :=
  (iterate_keeps (packIter w) State.i (packIter_i w) _ _).trans (enterPack_i w n s)
@[simp] theorem packPhase_j : (packPhase w n s).j = s.j :=
  (iterate_keeps (packIter w) State.j (packIter_j w) _ _).trans (enterPack_j w n s)
@[simp] theorem packPhase_k : (packPhase w n s).k = s.k :=
  (iterate_keeps (packIter w) State.k (packIter_k w) _ _).trans (enterPack_k w n s)
@[simp] theorem packPhase_rnd : (packPhase w n s).rnd = s.rnd :=
  (iterate_keeps (packIter w) State.rnd (packIter_rnd w) _ _).trans (enterPack_rnd w n s)
@[simp] theorem packPhase_S : (packPhase w n s).S = s.S :=
  (iterate_keeps (packIter w) State.S (packIter_S w) _ _).trans (enterPack_S w n s)
@[simp] theorem packPhase_RSP : (packPhase w n s).RSP = s.RSP :=
  (iterate_keeps (packIter w) State.RSP (packIter_RSP w) _ _).trans (enterPack_RSP w n s)
@[simp] theorem packPhase_ports : (packPhase w n s).ports = s.ports :=
  (iterate_keeps (packIter w) State.ports (packIter_ports w) _ _).trans (enterPack_ports w n s)
@[simp] theorem packPhase_agenda : (packPhase w n s).agenda = s.agenda :=
  (iterate_keeps (packIter w) State.agenda (packIter_agenda w) _ _).trans (enterPack_agenda w n s)
@[simp] theorem packPhase_responses : (packPhase w n s).responses = s.responses :=
  (iterate_keeps (packIter w) State.responses (packIter_responses w) _ _).trans (enterPack_responses w n s)
end packPhase

section initPhase
@[simp] theorem initPhase_ST : (initPhase w r s).ST = s.ST :=
  (iterate_keeps (initIter w r) State.ST (initIter_ST w r) _ _).trans (enterInit_ST w s)
@[simp] theorem initPhase_RQ : (initPhase w r s).RQ = s.RQ :=
  (iterate_keeps (initIter w r) State.RQ (initIter_RQ w r) _ _).trans (enterInit_RQ w s)
@[simp] theorem initPhase_A : (initPhase w r s).A = s.A :=
  (iterate_keeps (initIter w r) State.A (initIter_A w r) _ _).trans (enterInit_A w s)
@[simp] theorem initPhase_B : (initPhase w r s).B = s.B :=
  (iterate_keeps (initIter w r) State.B (initIter_B w r) _ _).trans (enterInit_B w s)
@[simp] theorem initPhase_j : (initPhase w r s).j = s.j :=
  (iterate_keeps (initIter w r) State.j (initIter_j w r) _ _).trans (enterInit_j w s)
@[simp] theorem initPhase_k : (initPhase w r s).k = s.k :=
  (iterate_keeps (initIter w r) State.k (initIter_k w r) _ _).trans (enterInit_k w s)
@[simp] theorem initPhase_h : (initPhase w r s).h = s.h :=
  (iterate_keeps (initIter w r) State.h (initIter_h w r) _ _).trans (enterInit_h w s)
@[simp] theorem initPhase_rnd : (initPhase w r s).rnd = s.rnd :=
  (iterate_keeps (initIter w r) State.rnd (initIter_rnd w r) _ _).trans (enterInit_rnd w s)
@[simp] theorem initPhase_L : (initPhase w r s).L = s.L :=
  (iterate_keeps (initIter w r) State.L (initIter_L w r) _ _).trans (enterInit_L w s)
@[simp] theorem initPhase_RSP : (initPhase w r s).RSP = s.RSP :=
  (iterate_keeps (initIter w r) State.RSP (initIter_RSP w r) _ _).trans (enterInit_RSP w s)
@[simp] theorem initPhase_ports : (initPhase w r s).ports = s.ports :=
  (iterate_keeps (initIter w r) State.ports (initIter_ports w r) _ _).trans (enterInit_ports w s)
@[simp] theorem initPhase_agenda : (initPhase w r s).agenda = s.agenda :=
  (iterate_keeps (initIter w r) State.agenda (initIter_agenda w r) _ _).trans (enterInit_agenda w s)
@[simp] theorem initPhase_responses : (initPhase w r s).responses = s.responses :=
  (iterate_keeps (initIter w r) State.responses (initIter_responses w r) _ _).trans (enterInit_responses w s)
end initPhase

section mixPhase
@[simp] theorem mixPhase_ST : (mixPhase w n r s).ST = s.ST :=
  (iterate_keeps (mixIter w n r) State.ST (mixIter_ST w n r) _ _).trans (enterMix_ST s)
@[simp] theorem mixPhase_RQ : (mixPhase w n r s).RQ = s.RQ :=
  (iterate_keeps (mixIter w n r) State.RQ (mixIter_RQ w n r) _ _).trans (enterMix_RQ s)
@[simp] theorem mixPhase_h : (mixPhase w n r s).h = s.h :=
  (iterate_keeps (mixIter w n r) State.h (mixIter_h w n r) _ _).trans (enterMix_h s)
@[simp] theorem mixPhase_rnd : (mixPhase w n r s).rnd = s.rnd :=
  (iterate_keeps (mixIter w n r) State.rnd (mixIter_rnd w n r) _ _).trans (enterMix_rnd s)
@[simp] theorem mixPhase_RSP : (mixPhase w n r s).RSP = s.RSP :=
  (iterate_keeps (mixIter w n r) State.RSP (mixIter_RSP w n r) _ _).trans (enterMix_RSP s)
@[simp] theorem mixPhase_ports : (mixPhase w n r s).ports = s.ports :=
  (iterate_keeps (mixIter w n r) State.ports (mixIter_ports w n r) _ _).trans (enterMix_ports s)
@[simp] theorem mixPhase_agenda : (mixPhase w n r s).agenda = s.agenda :=
  (iterate_keeps (mixIter w n r) State.agenda (mixIter_agenda w n r) _ _).trans (enterMix_agenda s)
@[simp] theorem mixPhase_responses : (mixPhase w n r s).responses = s.responses :=
  (iterate_keeps (mixIter w n r) State.responses (mixIter_responses w n r) _ _).trans (enterMix_responses s)
end mixPhase

section encRounds
@[simp] theorem encRounds_ST : (encRounds w r s).ST = s.ST :=
  (iterate_keeps (encRound w r) State.ST (encRound_ST w r) _ _)
@[simp] theorem encRounds_PH : (encRounds w r s).PH = s.PH :=
  (iterate_keeps (encRound w r) State.PH (encRound_PH w r) _ _)
@[simp] theorem encRounds_RQ : (encRounds w r s).RQ = s.RQ :=
  (iterate_keeps (encRound w r) State.RQ (encRound_RQ w r) _ _)
@[simp] theorem encRounds_i : (encRounds w r s).i = s.i :=
  (iterate_keeps (encRound w r) State.i (encRound_i w r) _ _)
@[simp] theorem encRounds_j : (encRounds w r s).j = s.j :=
  (iterate_keeps (encRound w r) State.j (encRound_j w r) _ _)
@[simp] theorem encRounds_k : (encRounds w r s).k = s.k :=
  (iterate_keeps (encRound w r) State.k (encRound_k w r) _ _)
@[simp] theorem encRounds_h : (encRounds w r s).h = s.h :=
  (iterate_keeps (encRound w r) State.h (encRound_h w r) _ _)
@[simp] theorem encRounds_L : (encRounds w r s).L = s.L :=
  (iterate_keeps (encRound w r) State.L (encRound_L w r) _ _)
@[simp] theorem encRounds_S : (encRounds w r s).S = s.S :=
  (iterate_keeps (encRound w r) State.S (encRound_S w r) _ _)
@[simp] theorem encRounds_RSP : (encRounds w r s).RSP = s.RSP :=
  (iterate_keeps (encRound w r) State.RSP (encRound_RSP w r) _ _)
@[simp] theorem encRounds_ports : (encRounds w r s).ports = s.ports :=
  (iterate_keeps (encRound w r) State.ports (encRound_ports w r) _ _)
@[simp] theorem encRounds_agenda : (encRounds w r s).agenda = s.agenda :=
  (iterate_keeps (encRound w r) State.agenda (encRound_agenda w r) _ _)
@[simp] theorem encRounds_responses : (encRounds w r s).responses = s.responses :=
  (iterate_keeps (encRound w r) State.responses (encRound_responses w r) _ _)
end encRounds

section decRounds
@[simp] theorem decRounds_ST : (decRounds w r s).ST = s.ST :=
  (iterate_keeps (decRound w) State.ST (decRound_ST w) _ _)
@[simp] theorem decRounds_PH : (decRounds w r s).PH = s.PH :=
  (iterate_keeps (decRound w) State.PH (decRound_PH w) _ _)
@[simp] theorem decRounds_RQ : (decRounds w r s).RQ = s.RQ :=
  (iterate_keeps (decRound w) State.RQ (decRound_RQ w) _ _)
@[simp] theorem decRounds_i : (decRounds w r s).i = s.i :=
  (iterate_keeps (decRound w) State.i (decRound_i w) _ _)
@[simp] theorem decRounds_j : (decRounds w r s).j = s.j :=
  (iterate_keeps (decRound w) State.j (decRound_j w) _ _)
@[simp] theorem decRounds_k : (decRounds w r s).k = s.k :=
  (iterate_keeps (decRound w) State.k (decRound_k w) _ _)
@[simp] theorem decRounds_h : (decRounds w r s).h = s.h :=
  (iterate_keeps (decRound w) State.h (decRound_h w) _ _)
@[simp] theorem decRounds_L : (decRounds w r s).L = s.L :=
  (iterate_keeps (decRound w) State.L (decRound_L w) _ _)
@[simp] theorem decRounds_S : (decRounds w r s).S = s.S :=
  (iterate_keeps (decRound w) State.S (decRound_S w) _ _)
@[simp] theorem decRounds_RSP : (decRounds w r s).RSP = s.RSP :=
  (iterate_keeps (decRound w) State.RSP (decRound_RSP w) _ _)
@[simp] theorem decRounds_ports : (decRounds w r s).ports = s.ports :=
  (iterate_keeps (decRound w) State.ports (decRound_ports w) _ _)
@[simp] theorem decRounds_agenda : (decRounds w r s).agenda = s.agenda :=
  (iterate_keeps (decRound w) State.agenda (decRound_agenda w) _ _)
@[simp] theorem decRounds_responses : (decRounds w r s).responses = s.responses :=
  (iterate_keeps (decRound w) State.responses (decRound_responses w) _ _)
end decRounds

section keySchedule
@[simp] theorem keySchedule_ST : (keySchedule w n r s).ST = s.ST := by simp [keySchedule]
@[simp] theorem keySchedule_RQ : (keySchedule w n r s).RQ = s.RQ := by simp [keySchedule]
@[simp] theorem keySchedule_RSP : (keySchedule w n r s).RSP = s.RSP := by simp [keySchedule]
@[simp] theorem keySchedule_rnd : (keySchedule w n r s).rnd = s.rnd := by simp [keySchedule]
@[simp] theorem keySchedule_ports : (keySchedule w n r s).ports = s.ports := by simp [keySchedule]
@[simp] theorem keySchedule_agenda : (keySchedule w n r s).agenda = s.agenda := by simp [keySchedule]
@[simp] theorem keySchedule_responses : (keySchedule w n r s).responses = s.responses := by simp [keySchedule]
end keySchedule

/-! ### The host's side -/

theorem SameHost.refl : SameHost s s := ⟨rfl, rfl, rfl⟩

theorem SameHost.trans {s t u : State} (h : SameHost s t) (h' : SameHost t u) : SameHost s u :=
  ⟨h.1.trans h'.1, h.2.1.trans h'.2.1, h.2.2.trans h'.2.2⟩

/-- The work of EXPKEY leaves the host's side alone. -/
theorem sameHost_expkeyWork : SameHost (expkeyWork w n r s) s := by simp [SameHost, expkeyWork]

/-- The work of ENC leaves the host's side alone. -/
theorem sameHost_encWork : SameHost (encWork w n r s) s := by simp [SameHost, encWork]

/-- The work of DEC leaves the host's side alone. -/
theorem sameHost_decWork : SameHost (decWork w n r s) s := by simp [SameHost, decWork]

end Sys2Proof.Machine
end

