-- ==== Sys2Proof/Tests/Slice0.lean ====
section
/-!
SUPPORT. The model's own tests, their expected values taken from spec/95_test_vectors.md, and the witnesses that
meet the hypotheses of the statements.
-/

namespace Sys2Proof.Tests

open Sys2Proof.Machine

/-! ### Small states -/

/-- A request accepted from the reset state, CHECK next. -/
def accepted (cmd : BitVec 32) (x0 x1 : Carrier) (bs : List Byte) : State :=
  { State.reset with ST := .busy, PH := .check, RQ := { CMD := cmd, X0 := x0, X1 := x1, BUF := bufferOf 0 bs } }

/-- The response that one step delivers, if it delivers one and leaves the engine quiet. -/
def answer? (s : State) : Option Response :=
  match step s with
  | .next t => if t.Quiet then t.responses.getLast? else none
  | _ => none

/-- The state one step leads to. -/
def after (s : State) : Option State :=
  match step s with
  | .next t => some t
  | _ => none

/-- EXPKEY.8 with no key byte and no round (vector E1), at the entry of MIX: `S` as INIT leaves it. -/
def atMix : State :=
  { State.reset with
    ST := .busy, PH := .mix, RQ := { Request.zero with CMD := 0x00000008#32 }, i := 0,
    S := [(0, 0xB7#128), (1, 0x56#128)] }

/-- A request for ADD.8 on the ports of an idle engine, the cells 0 and 254 of the buffer set. -/
def atPorts : State :=
  { State.reset with ports := { CMD := 0x00000001#32, X0 := 0xFF#128, X1 := 0x01#128, BUF := [(0, 7), (254, 9)] } }

/-! ### Well-formedness: one ill-formed command for each check -/

theorem test_wf_fromle_count : (Instr.fromle .w8 256).wf = false := by decide
theorem test_wf_expkey_count : (Instr.expkey .w8 256 0).wf = false := by decide
theorem test_wf_expkey_rounds : (Instr.expkey .w8 0 65536).wf = false := by decide
theorem test_wf_enc_count : (Instr.enc .w8 256 0).wf = false := by decide
theorem test_wf_enc_rounds : (Instr.enc .w8 0 65536).wf = false := by decide
theorem test_wf_dec_count : (Instr.dec .w8 256 0).wf = false := by decide
theorem test_wf_dec_rounds : (Instr.dec .w8 0 65536).wf = false := by decide
theorem test_wf_largest_fields : (Instr.enc .w8 255 65535).wf = true := by decide

/-! ### Decoding: the words of section 2.7, bit by bit, and the illegal words of section 2.6 -/

theorem test_decode_add : decode 0b0000000000000000_00000000_0_000_0001#32 = .ok (.add .w8) := by decide
theorem test_decode_sub : decode 0b0000000000000000_00000000_0_001_0010#32 = .ok (.sub .w16) := by decide
theorem test_decode_rotl : decode 0b0000000000000000_00000000_0_010_0011#32 = .ok (.rotl .w32) := by decide
theorem test_decode_rotr : decode 0b0000000000000000_00000000_0_011_0100#32 = .ok (.rotr .w64) := by decide
theorem test_decode_tole : decode 0b0000000000000000_00000000_0_100_0101#32 = .ok (.tole .w128) := by decide
theorem test_decode_fromle : decode 0b0000000000000000_00001000_0_011_0110#32 = .ok (.fromle .w64 8) := by decide
theorem test_decode_const : decode 0b0000000000000000_00000001_0_001_0111#32 = .ok (.const .w16 .bytes) := by decide
theorem test_decode_expkey : decode 0b0000000000001100_00010000_0_010_1000#32 = .ok (.expkey .w32 16 12) := by decide
theorem test_decode_enc : decode 0b0000000000011100_00100000_0_100_1001#32 = .ok (.enc .w128 32 28) := by decide
theorem test_decode_dec : decode 0b0000000011111111_11111111_0_000_1010#32 = .ok (.dec .w8 255 255) := by decide
theorem test_decode_reserved_operation : decode 0x0000000B#32 = .error .reservedOperation := by decide
theorem test_decode_reserved_width : decode 0x00000051#32 = .error .reservedWidth := by decide
theorem test_decode_reserved_bit : decode 0x00000081#32 = .error .reservedBit := by decide
theorem test_decode_unused_count : decode 0x00000101#32 = .error .nNotZero := by decide
theorem test_decode_unused_rounds : decode 0x00010406#32 = .error .rNotZero := by decide
theorem test_decode_reserved_selector : decode 0x00000407#32 = .error .reservedSelector := by decide
theorem test_decode_truncated : decodeBytes [0x01, 0x00, 0x00] = .error .truncated := by decide
theorem test_decode_bytes : decodeBytes [0x49, 0x20, 0x1C, 0x00, 0xAA] = .ok (.enc .w128 32 28, [0xAA]) := by decide
theorem test_decode_table_word : decodeTableWord 32 0x000C1028 = some (.expkey .w32 16 12) := by decide
theorem test_encode_bytes : encodeBytes (.enc .w16 8 16) = [0x19, 0x08, 0x10, 0x00] := by decide
theorem test_fetch_word_runs :
    answer? (State.reset.withFetchWord 32 0x00000207) = some (Response.word 0xB7#128) := by decide

/-! ### Commands, one step each -/

theorem test_add_wraps :
    answer? (accepted 0x00000001#32 0xFF#128 0x01#128 []) = some (Response.word 0x00#128) := by decide
theorem test_add_too_wide :
    answer? (accepted 0x00000001#32 0x100#128 0x01#128 []) = some (Response.error .conversionError) := by decide
theorem test_sub_borrows :
    answer? (accepted 0x00000002#32 0x00#128 0x01#128 []) = some (Response.word 0xFF#128) := by decide
theorem test_sub_widest :
    answer? (accepted 0x00000042#32 0#128 0x80000000000000000000000000000000#128 [])
      = some (Response.word 0x80000000000000000000000000000000#128) := by decide
theorem test_rotl_reduces_amount :
    answer? (accepted 0x00000013#32 0x8421#128 0x9E37#128 []) = some (Response.word 0x10C2#128) := by decide
theorem test_rotl_amount_too_wide :
    answer? (accepted 0x00000013#32 0x8421#128 0x10000#128 []) = some (Response.error .conversionError) := by decide
theorem test_rotr_by_one :
    answer? (accepted 0x00000004#32 0x81#128 0x01#128 []) = some (Response.word 0xC0#128) := by decide
theorem test_rotr_widest :
    answer? (accepted 0x00000044#32 0x80402010080402011122334455667789#128 0x9E3779B97F4A7C15F39CC0605CEDC835#128 [])
      = some (Response.word 0x119A22AB33BC4C020100804020100889#128) := by decide
theorem test_tole_order :
    answer? (accepted 0x00000025#32 0x33221100#128 0#128 [])
      = some (Response.bytes [0x00, 0x11, 0x22, 0x33]) := by decide
theorem test_tole_ignores_x1 :
    answer? (accepted 0x00000015#32 0x0100#128 0xFFFFFFFF#128 []) = some (Response.bytes [0x00, 0x01]) := by decide
theorem test_fromle_order :
    answer? (accepted 0x00000426#32 0#128 0#128 [0x00, 0x11, 0x22, 0x33])
      = some (Response.word 0x33221100#128) := by decide
theorem test_fromle_short :
    answer? (accepted 0x00000326#32 0#128 0#128 [0x00, 0x11, 0x22])
      = some (Response.error .conversionError) := by decide
theorem test_const_bytes :
    answer? (accepted 0x00000147#32 0#128 0#128 []) = some (Response.word 0x10#128) := by decide
theorem test_const_q :
    answer? (accepted 0x00000347#32 0#128 0#128 [])
      = some (Response.word 0x9E3779B97F4A7C15F39CC0605CEDC835#128) := by decide
/-- Vector E4: the last key word is partly filled. -/
theorem test_expkey_partial_word :
    answer? (accepted 0x00010318#32 0#128 0#128 [0x11, 0x22, 0x33])
      = some (Response.table [0x0F87#128, 0xC7F7#128, 0x70DC#128, 0x1A03#128]) := by decide +kernel
theorem test_expkey_too_many_rounds :
    answer? (accepted 0x01000008#32 0#128 0#128 []) = some (Response.error .badLength) := by decide
/-- Vector K2. -/
theorem test_enc_known_answer :
    answer? (accepted 0x000C0409#32 0x00#128 0x01#128 [0x00, 0x01, 0x02, 0x03])
      = some (Response.block 0x21#128 0x2A#128) := by decide +kernel
/-- Section 2.6: both errors apply and ConversionError is checked first. -/
theorem test_enc_two_errors :
    answer? (accepted 0x012C0009#32 0x100#128 0#128 []) = some (Response.error .conversionError) := by decide
/-- Vector K1, backwards. -/
theorem test_dec_known_answer :
    answer? (accepted 0x000C102A#32 0x9B14DC2D#128 0x9E8B08CF#128
      [0x00, 0x01, 0x02, 0x03, 0x04, 0x05, 0x06, 0x07, 0x08, 0x09, 0x0A, 0x0B, 0x0C, 0x0D, 0x0E, 0x0F])
      = some (Response.block 0x33221100#128 0x77665544#128) := by decide +kernel
/-- Program 2, step 7: no round. -/
theorem test_dec_no_round :
    answer? (accepted 0x0000011A#32 0xB0F0#128 0xA97B#128 [0xAB])
      = some (Response.block 0xFFFF#128 0x0001#128) := by decide +kernel
theorem test_illegal_before_everything :
    answer? (accepted 0x012C0089#32 0x100#128 0#128 []) = some (Response.error .illegalCommand) := by decide

/-- The example after Table R83-a of 30_encoding.md, and the form of vector K2. -/
theorem test_assembler_request :
    (AsmForm.enc .w32 12 [0x00, 0x01, 0x02, 0x03, 0x04, 0x05, 0x06, 0x07, 0x08, 0x09, 0x0A, 0x0B, 0x0C, 0x0D, 0x0E,
      0x0F] 0x33221100#128 0x77665544#128).request.CMD = 0x000C1029#32 := by decide
theorem test_assembler_text :
    (AsmForm.enc .w8 12 [0x00, 0x01, 0x02, 0x03] 0x00#128 0x01#128).text
      = "ENC.8 r=12, key=[00 01 02 03], 0x00, 0x01".toList := by decide +kernel

/-! ### The sequencer, memories and the host's moves -/

/-- Trace R144, iteration `k = 0`: `S[0] = A = 0xBD` and `L[0] = B = 0xB7`. -/
theorem test_mix_first_iteration :
    (after atMix).map State.A = some 0xBD#128 ∧ (after atMix).map State.L = some [(0, 0xB7#128)] ∧
    (after atMix).map State.S = some [(0, 0xBD#128), (1, 0x56#128)] := by decide
theorem test_mix_advances :
    (after atMix).map (fun t => (t.i.val, t.k.val)) = some (1, 1) ∧ (after atMix).map State.PH = some .mix := by decide
theorem test_write_zero_removes :
    Memory.write [(3, 5#8), (7, 9#8)] 3 0#8 = [(7, 9#8)] ∧ Memory.read [(3, 5#8), (7, 9#8)] 4 = 0#8 := by decide
theorem test_clear_and_list :
    Memory.clear 4 [(3, 5#8), (7, 9#8)] = [(7, 9#8)] ∧ Memory.toList 3 [(1, 6#8)] = [0#8, 6#8, 0#8] := by decide
theorem test_accept_copies_the_ports :
    (after { atPorts with agenda := [.present] }).map (fun t => (t.ST, t.PH, t.RQ, t.agenda))
      = some (.busy, .check, atPorts.ports, []) := by decide +kernel
theorem test_present_while_busy : after { atMix with agenda := [.present] } = some atMix := by decide
theorem test_reset_while_busy : after { atMix with agenda := [.reset] } = some State.reset := by decide

/-! ### Witnesses: states and operands that meet the hypotheses of each statement -/

theorem witness_ResetClearsTheEngineAtAnyTime :
    { atMix with agenda := [.reset, .present] }.agenda = .reset :: .present :: [] ∧ atMix.ST = .busy := by decide

theorem witness_RequestsAreAcceptedOnlyAtIdle :
    ({ atPorts with agenda := [.present] }.agenda = .present :: [] ∧ atPorts.ST = .idle ∧
      Memory.read atPorts.ports.BUF 254 = 9) ∧
    { atMix with agenda := [.present] }.agenda = .present :: [] ∧ atMix.ST = .busy := by decide

theorem witness_PortsHaveNoEffectOnACommandInFlight :
    { atMix with agenda := [.drive atPorts.ports] }.agenda = .drive atPorts.ports :: [] ∧ atMix.ST = .busy ∧
    atMix.agenda = [] ∧ (∃ t, step atMix = .next t) ∧ (∃ t, step { atMix with agenda := [.engine] } = .next t) ∧
    ∃ t, step { atMix with agenda := [.phase] } = .next t :=
  ⟨rfl, rfl, rfl, ⟨_, rfl⟩, ⟨_, rfl⟩, ⟨_, rfl⟩⟩

theorem witness_RunStateChangesOnlyAtAcceptanceAndCompletion :
    (∃ t, step { atPorts with agenda := [.present] } = .next t ∧ atPorts.ST = .idle ∧ t.ST = .busy) ∧
    (∃ t, step { atMix with agenda := [.reset] } = .next t ∧ atMix.ST = .busy ∧ t.ST = .idle) ∧
    ∃ t, step (accepted 0x00000001#32 1#128 2#128 []) = .next t ∧ t.ST = .idle :=
  ⟨⟨_, rfl, rfl, rfl⟩, ⟨_, rfl, rfl, rfl⟩, ⟨_, rfl, rfl⟩⟩

theorem witness_AnIdleEngineWaitsForARequest : atPorts.ST = .idle ∧ atPorts.agenda = [] := by decide

theorem witness_StepRunsTheDecodedCommand :
    (accepted 0x00000001#32 1#128 2#128 []).AtCheck ∧
    decode (accepted 0x00000001#32 1#128 2#128 []).RQ.CMD = .ok (.add .w8) ∧
    (accepted 0x00000001#32 1#128 2#128 []).agenda = [] ∧
    { accepted 0x00000001#32 1#128 2#128 [] with agenda := [.engine, .reset] }.AtCheck ∧
    { accepted 0x00000001#32 1#128 2#128 [] with agenda := [.phase] }.ST = .busy ∧
    atMix.ST = .busy ∧ atMix.PH ≠ .check ∧ atMix.agenda = [] := by decide

theorem witness_DecodingAnEncodedCommandGivesItBack :
    (Instr.dec .w128 255 65535).wf = true ∧ (Instr.fromle .w8 0).wf = true := by decide

theorem witness_EncodingADecodedWordGivesItBack :
    decode 0xFFFFFF4A#32 = .ok (.dec .w128 255 65535) ∧ decode 0x00000001#32 = .ok (.add .w8) := by decide

theorem witness_CommandWordsAreSerialisedLeastSignificantByteFirst :
    decode 0x000C1029#32 = .ok (.enc .w32 16 12) ∧ decode 0xFFFFFFFF#32 = .error .reservedBit := by decide

theorem witness_LegalWordsMatchARowOfTheOpcodeMap :
    decode 0xFFFFFF4A#32 = .ok (.dec .w128 255 65535) ∧
    ∃ row ∈ opcodeMap, 0xFFFFFF4A#32 &&& row.mask = row.code := by decide

theorem witness_AssemblerFormsProduceTheirRequests :
    (AsmForm.enc .w128 65535 [0x07] 1#128 2#128).instr.wf = true ∧ (AsmForm.fromle .w8 []).instr.wf = true ∧
    (AsmForm.fromle .w8 []).instr.readsX0 = false ∧ (AsmForm.tole .w8 1#128).instr.readsX1 = false ∧
    (AsmForm.tole .w8 1#128).instr.readsBuf = false := by decide

theorem witness_IllegalWordsAreTheListedOnesAndComputeNothing :
    (accepted 0x0000000F#32 0x100#128 0#128 []).AtCheck ∧ (accepted 0x0000000F#32 0x100#128 0#128 []).agenda = [] ∧
    decode (accepted 0x0000000F#32 0x100#128 0#128 []).RQ.CMD = .error .reservedOperation := by decide

/-- One request for each outcome of the checks, at the edges `r = 256` and `r = 255`, and one for which both
operand checks fail. -/
theorem witness_TheFirstFailingCheckDecidesTheStatus :
    (accepted 0x012C0089#32 0x100#128 0#128 []).AtCheck ∧
    decode (accepted 0x012C0089#32 0x100#128 0#128 []).RQ.CMD = .error .reservedBit ∧
    decode (accepted 0x01000009#32 0x100#128 0#128 []).RQ.CMD = .ok (.enc .w8 0 256) ∧
    ¬ OperandsFit (.enc .w8 0 256) (accepted 0x01000009#32 0x100#128 0#128 []).RQ ∧
    OperandsFit (.enc .w8 0 256) (accepted 0x01000009#32 0xFF#128 0#128 []).RQ ∧
    255 < (Instr.enc .w8 0 256).rOperand ∧
    decode (accepted 0x00FF0009#32 0xFF#128 0#128 []).RQ.CMD = .ok (.enc .w8 0 255) ∧
    OperandsFit (.enc .w8 0 255) (accepted 0x00FF0009#32 0xFF#128 0#128 []).RQ ∧
    (Instr.enc .w8 0 255).rOperand ≤ 255 := by decide

theorem witness_NoArithmeticConditionIsAnError :
    OperandsFit (.enc .w8 0 255) (accepted 0x00FF0009#32 0xFF#128 0xFF#128 []).RQ ∧
    (∀ w n r, Instr.enc .w8 0 255 = .expkey w n r ∨ Instr.enc .w8 0 255 = .enc w n r ∨
      Instr.enc .w8 0 255 = .dec w n r → r ≤ 255) ∧
    OperandsFit (.fromle .w16 2) Request.zero := by
  refine ⟨by decide, ?_, by decide⟩
  rintro w n r (h | h | h) <;> injections
  omega

theorem witness_AnErrorEndsTheCommandWithItsStatusAlone :
    (accepted 0x0000000F#32 0#128 0#128 []).AtCheck ∧
    decode (accepted 0x0000000F#32 0#128 0#128 []).RQ.CMD = .error .reservedOperation ∧
    (accepted 0x01000009#32 0xFF#128 0#128 []).AtCheck ∧
    decode (accepted 0x01000009#32 0xFF#128 0#128 []).RQ.CMD = .ok (.enc .w8 0 256) ∧
    checkOf (.enc .w8 0 256) (accepted 0x01000009#32 0xFF#128 0#128 []).RQ = some .badLength ∧
    (accepted 0x01000009#32 0xFF#128 0#128 []).agenda = [] := by decide

theorem witness_EveryCommandEndsQuietAndDeliversOneResponse :
    { atMix with PH := .finish }.PH = .finish ∧ (Response.error .badLength).STATUS ≠ .ok ∧
    decode { atMix with PH := .finish }.RQ.CMD = .ok (.expkey .w8 0 0) := by decide

/-- The hypotheses of the statements about a command of the key schedule or the block transform: `n = 255` and
`r = 255` are met, with any state at CHECK. -/
theorem witness_EachCommandFillsTheResponseFieldsOfItsRow :
    (Instr.dec .w8 255 255).wf = true ∧ (accepted 0x00FFFF0A#32 0xFF#128 0xFF#128 []).MemoriesInForm := by decide

theorem witness_AddAnswersTheSumModuloTwoToTheWidth :
    IsWord .w8 (accepted 0x00000001#32 0xFF#128 0x01#128 []).RQ.X0 ∧
    IsWord .w8 (accepted 0x00000001#32 0xFF#128 0x01#128 []).RQ.X1 ∧
    ¬ (IsWord .w8 (accepted 0x00000001#32 0x100#128 0x01#128 []).RQ.X0 ∧
      IsWord .w8 (accepted 0x00000001#32 0x100#128 0x01#128 []).RQ.X1) := by decide

theorem witness_SubAnswersTheDifferenceModuloTwoToTheWidth :
    IsWord .w128 (accepted 0x00000042#32 0#128 1#128 []).RQ.X0 ∧
    IsWord .w128 (accepted 0x00000042#32 0#128 1#128 []).RQ.X1 ∧
    ¬ (IsWord .w64 (accepted 0x00000032#32 0#128 0x10000000000000000#128 []).RQ.X0 ∧
      IsWord .w64 (accepted 0x00000032#32 0#128 0x10000000000000000#128 []).RQ.X1) := by decide

theorem witness_SubtractionIsTheInverseOfAddition : IsWord .w8 0xFF#128 ∧ IsWord .w8 0#128 := by decide

theorem witness_RotlMovesEveryBitTowardTheTop :
    IsWord .w16 (accepted 0x00000013#32 0x8421#128 0xFFFF#128 []).RQ.X0 ∧
    IsWord .w16 (accepted 0x00000013#32 0x8421#128 0xFFFF#128 []).RQ.X1 ∧ 15 < Width.w16.bits ∧
    ¬ (IsWord .w16 (accepted 0x00000013#32 0x8421#128 0x10000#128 []).RQ.X0 ∧
      IsWord .w16 (accepted 0x00000013#32 0x8421#128 0x10000#128 []).RQ.X1) := by decide

theorem witness_RotrMovesEveryBitTowardTheBottom :
    IsWord .w16 (accepted 0x00000014#32 0x8421#128 0xFFFF#128 []).RQ.X0 ∧
    IsWord .w16 (accepted 0x00000014#32 0x8421#128 0xFFFF#128 []).RQ.X1 ∧ 0 < Width.w16.bits ∧
    ¬ (IsWord .w16 (accepted 0x00000014#32 0x10000#128 1#128 []).RQ.X0 ∧
      IsWord .w16 (accepted 0x00000014#32 0x10000#128 1#128 []).RQ.X1) := by decide

theorem witness_RotationsUndoEachOtherAndReduceTheirAmount :
    IsWord .w8 0x81#128 ∧ IsWord .w8 0x10#128 ∧ Width.w8.bits ∣ (0x10#128).toNat ∧
    (0x10#128).toNat % Width.w8.bits = (0xF8#128).toNat % Width.w8.bits := by decide

theorem witness_RotationsKeepTheNumberOfOneBits : IsWord .w8 0x81#128 := by decide

theorem witness_ToleAnswersTheBytesLeastSignificantFirst :
    IsWord .w16 (accepted 0x00000015#32 0xFFFF#128 0#128 []).RQ.X0 ∧
    ¬ IsWord .w16 (accepted 0x00000015#32 0x10000#128 0#128 []).RQ.X0 := by decide

theorem witness_FromleAnswersTheWordOfTheBytes :
    (16 : Nat) = Width.w128.bytes ∧ (15 : Nat) ≠ Width.w128.bytes ∧ (0 : Nat) ≠ Width.w8.bytes ∧ (255 : Nat) < 256 :=
  by decide

theorem witness_ToleAndFromleUndoEachOther :
    IsWord .w16 (accepted 0x00000015#32 0x0100#128 0#128 []).RQ.X0 ∧
    (∀ k < Width.w16.bytes, Memory.read (accepted 0x00000216#32 0#128 0#128 [0x00, 0x01]).RQ.BUF k
      = [0x00#8, 0x01#8].getD k 0) ∧
    (accepted 0x00000216#32 0#128 0#128 [0x00, 0x01]).MemoriesInForm := by decide

theorem witness_ConstAnswersTheTable : 4 ≤ 255 ∧ 255 < 256 ∧ 4 ≤ 4 ∧ 4 < 256 := by decide

theorem witness_PackLaysTheKeyBytesLittleEndian :
    255 ≤ 255 ∧ State.MemoriesInForm { atMix with L := [(0, 7#128), (254, 9#128)] } ∧ 254 < keyWords .w8 255 ∧
    254 < 255 ∧ keyWords .w8 4 ≤ 254 := by decide

theorem witness_InitFillsTheTableFromTheMagicConstants :
    255 ≤ 255 ∧ State.MemoriesInForm { atMix with S := [(0, 7#128), (511, 9#128)] } ∧ 511 < tableSize 255 ∧
    tableSize 0 ≤ 511 := by decide

theorem witness_OneMixIterationRunsTheFiveStatementsInOrder :
    (0 ≤ 255 ∧ atMix.MemoriesInForm ∧ atMix.i.val < tableSize 0 ∧ atMix.j.val < keyWords .w8 0 ∧
      atMix.k.val < mixCount .w8 0 0) ∧
    { atMix with i := 511, j := 254, k := 1535 }.i.val < tableSize 255 ∧
    { atMix with i := 511, j := 254, k := 1535 }.j.val < keyWords .w8 255 ∧
    { atMix with i := 511, j := 254, k := 1535 }.k.val < mixCount .w8 255 255 := by decide

theorem witness_ExpkeyAnswersTheExpandedKey :
    (accepted 0x00FFFF08#32 0#128 0#128 []).MemoriesInForm ∧ 255 ≤ 255 ∧ 255 < 256 := by decide

theorem witness_ExpkeyDependsOnTheKeyTheRoundsAndTheWidthOnly :
    atMix.MemoriesInForm ∧ (accepted 0x00000208#32 1#128 2#128 [0x07, 0x14, 0x21]).MemoriesInForm ∧
    ∀ h < 2, Memory.read (accepted 0x00000208#32 1#128 2#128 [0x07, 0x14, 0x21]).RQ.BUF h
      = Memory.read (accepted 0x00000208#32 0#128 0#128 [0x07, 0x14]).RQ.BUF h := by decide

/-- The hypotheses of EncAnswersTheEncryptedBlock, DecAnswersTheDecryptedBlock, EncAndDecUseTheTableExpkeyReturns and
ZeroRoundsOnlyAddOrSubtractTheTwoSubkeys. -/
theorem witness_EncAndDecAnswers :
    255 ≤ 255 ∧ (accepted 0x00FFFF09#32 0xFF#128 0#128 []).MemoriesInForm ∧
    IsWord .w8 (accepted 0x00FFFF09#32 0xFF#128 0#128 []).RQ.X0 ∧
    IsWord .w8 (accepted 0x00FFFF09#32 0xFF#128 0#128 []).RQ.X1 := by decide

/-- Program 2: a state for ENC and one for DEC of its answer, with the same key. -/
theorem witness_EncAndDecUndoEachOther :
    (accepted 0x00000119#32 0xFFFF#128 0x0001#128 [0xAB]).MemoriesInForm ∧
    IsWord .w16 (accepted 0x00000119#32 0xFFFF#128 0x0001#128 [0xAB]).RQ.X0 ∧
    IsWord .w16 (accepted 0x00000119#32 0xFFFF#128 0x0001#128 [0xAB]).RQ.X1 ∧
    answer? (accepted 0x00000119#32 0xFFFF#128 0x0001#128 [0xAB])
      = some (Response.block (accepted 0x0000011A#32 0xB0F0#128 0xA97B#128 [0xAB, 0xCD]).RQ.X0
          (accepted 0x0000011A#32 0xB0F0#128 0xA97B#128 [0xAB, 0xCD]).RQ.X1) ∧
    ∀ h < 1, Memory.read (accepted 0x0000011A#32 0xB0F0#128 0xA97B#128 [0xAB, 0xCD]).RQ.BUF h
      = Memory.read (accepted 0x00000119#32 0xFFFF#128 0x0001#128 [0xAB]).RQ.BUF h := by decide +kernel

theorem witness_EveryCommandIsAFunctionOfItsRequest :
    (accepted 0x00FFFF09#32 0xFF#128 0#128 []).AtCheck ∧ (accepted 0x00FFFF09#32 0xFF#128 0#128 []).agenda = [] ∧
    (accepted 0x00FFFF09#32 0xFF#128 0#128 []).MemoriesInForm := by decide

/-- Two states that differ in `X1`, in the buffer and in the working memories, for TOLE. -/
theorem witness_TheResponseDependsOnlyOnWhatTheCommandReads :
    (Instr.tole .w16).wf = true ∧ (accepted 0x00000015#32 0x0100#128 0xFFFFFFFF#128 [0x01]).MemoriesInForm ∧
    State.MemoriesInForm { atMix with RQ := { atMix.RQ with X0 := 0x0100#128 } } ∧
    (Instr.tole .w16).readsX0 = true ∧ (Instr.tole .w16).readsX1 = false ∧ (Instr.tole .w16).readsBuf = false ∧
    (accepted 0x00000015#32 0x0100#128 0xFFFFFFFF#128 [0x01]).RQ.X0
      = { atMix with RQ := { atMix.RQ with X0 := 0x0100#128 } }.RQ.X0 := by decide

theorem witness_PhaseByPhaseAnswersWhatTheWholeCommandAnswers :
    (accepted 0x00FFFF09#32 0xFF#128 0#128 []).AtCheck ∧
    decode (accepted 0x00FFFF09#32 0xFF#128 0#128 []).RQ.CMD = .ok (.enc .w8 255 255) ∧
    checkOf (.enc .w8 255 255) (accepted 0x00FFFF09#32 0xFF#128 0#128 []).RQ = none ∧
    checkOf (.enc .w8 255 255) (accepted 0x00FFFF09#32 0x100#128 0#128 []).RQ ≠ none := by decide

theorem witness_EveryAcceptedCommandCompletes :
    (Instr.enc .w8 255 255).wf = true ∧ (Instr.enc .w8 255 255).rOperand ≤ 255 ∧
    (accepted 0x0000000F#32 0#128 0#128 []).AtCheck := by decide

theorem witness_PhasesFollowTheOrderOfTheTable :
    decode atMix.RQ.CMD = .ok (.expkey .w8 0 0) ∧ ∃ t, tick atMix = .next t := ⟨rfl, ⟨_, rfl⟩⟩

/-- Two EXPKEY.8 requests with different keys, three moves on: both have left PACK. -/
theorem witness_ControlFlowDependsOnTheCommandWordOnly :
    (accepted 0x00000108#32 0#128 0#128 [0x01]).AtCheck ∧ (accepted 0x00000108#32 5#128 6#128 [0xFE]).AtCheck ∧
    decode (accepted 0x00000108#32 0#128 0#128 [0x01]).RQ.CMD = .ok (.expkey .w8 1 0) ∧
    checkOf (.expkey .w8 1 0) (accepted 0x00000108#32 0#128 0#128 [0x01]).RQ = none ∧
    checkOf (.expkey .w8 1 0) (accepted 0x00000108#32 5#128 6#128 [0xFE]).RQ = none ∧
    (∃ t, ticks 3 (accepted 0x00000108#32 0#128 0#128 [0x01]) = .next t) ∧
    ∃ t, ticks 3 (accepted 0x00000108#32 5#128 6#128 [0xFE]) = .next t :=
  ⟨by decide, by decide, by decide, by decide, by decide, ⟨_, rfl⟩, ⟨_, rfl⟩⟩

theorem witness_MovesKeepTheRequestAndTheFinishedTable :
    (∃ t, tick atMix = .next t) ∧ atMix.PH ≠ .finish ∧
    ∃ t, tick { atMix with PH := .pre, RQ := { atMix.RQ with CMD := 0x00000009#32 } } = .next t :=
  ⟨⟨_, rfl⟩, by decide, ⟨_, rfl⟩⟩

theorem witness_AnIdleEngineStaysZero :
    (atPorts.ST = .idle → atPorts.Quiet) ∧ ∃ t, step atPorts = .next t ∧ t.ST = .idle :=
  ⟨by decide, ⟨_, rfl, rfl⟩⟩

/-- A state of the invariant in the middle of a command, with a next state; the hypotheses of
EveryStepKeepsTheInvariant and NoStepFromTheInvariantStops. -/
theorem witness_EveryStepKeepsTheInvariant : atMix.Inv ∧ ∃ t, step atMix = .next t := by
  refine ⟨?_, ⟨_, rfl⟩⟩
  show atMix.Running
  refine ⟨by decide, by decide, ?_⟩
  show atMix.InFlight (.expkey .w8 0 0)
  exact ⟨by decide, .inl ⟨.inr (by decide), by decide⟩, by decide, by decide⟩

/-- A state of the invariant with FINISH next after an error. -/
theorem witness_invariant_after_an_error :
    { atMix with PH := .finish, RQ := { atMix.RQ with CMD := 0x0000000F#32 },
                 RSP := Response.error .illegalCommand, S := [] }.Inv :=
  ⟨by decide, by decide, .inr ⟨rfl, rfl⟩⟩

end Sys2Proof.Tests
end

section
/-!
SUPPORT. What CHECK lets through: the counts of a decoded command fit their fields, and a check that passes says
that the operands are Words and the round count is in range.
-/

namespace Sys2Proof

theorem nField_lt (c : BitVec 32) : nField c < 256 := by
  obtain ⟨_, _, _, hn, _⟩ := fields_arith c
  omega

theorem rField_lt (c : BitVec 32) : rField c < 65536 := by
  obtain ⟨_, _, _, _, hr⟩ := fields_arith c
  omega

/-- A command without operand fields is accepted exactly with both fields zero. -/
theorem bareCommand_eq_ok_iff (c : BitVec 32) (i j : Instr) :
    bareCommand c i = .ok j ↔ nField c = 0 ∧ rField c = 0 ∧ i = j := by
  unfold bareCommand
  split
  · simp_all
  · split <;> simp_all

/-- The operation of a legal word is a well-formed command. -/
theorem wf_of_decodeOp {c : BitVec 32} {w : Width} {i : Instr} (h : decodeOp c w = .ok i) : i.wf = true := by
  have hn := nField_lt c
  have hr := rField_lt c
  unfold decodeOp at h
  split at h
  case h_1 | h_2 | h_3 | h_4 | h_5 =>
    obtain ⟨_, _, rfl⟩ := (bareCommand_eq_ok_iff _ _ _).1 h
    rfl
  case h_6 =>
    split at h
    · cases h
    · cases h
      simpa [Instr.wf, fitsN] using hn
  case h_7 =>
    split at h
    · cases h
    · split at h <;> cases h
      rfl
  case h_8 | h_9 | h_10 =>
    cases h
    simp [Instr.wf, fitsN, fitsR, hn, hr]
  case h_11 => cases h

/-- Every word that decodes spells a well-formed command. -/
theorem wf_of_decode {c : BitVec 32} {i : Instr} (h : decode c = .ok i) : i.wf = true := by
  unfold decode at h
  split at h
  · cases h
  · split at h
    · cases h
    · exact wf_of_decodeOp h

/-- The byte count of a well-formed command is at most `BMAX`. -/
theorem Instr.nOperand_le {i : Instr} (h : i.wf = true) : i.nOperand ≤ 255 := by
  cases i with
  | const w sel => exact Nat.le_of_lt_succ sel.code_lt
  | fromle w n => exact Nat.le_of_lt_succ (of_decide_eq_true h)
  | expkey w n r | enc w n r | dec w n r =>
    obtain ⟨hn, -⟩ := Bool.and_eq_true_iff.1 h
    exact Nat.le_of_lt_succ (of_decide_eq_true hn)
  | _ => exact Nat.zero_le _

namespace Machine

theorem checkPorts_eq_none_iff (w : Width) (ports : List Carrier) :
    checkPorts w ports = none ↔ ∀ x ∈ ports, IsWord w x := by
  simp only [checkPorts, ite_eq_left_iff, reduceCtorEq, imp_false, not_not, List.all_eq_true, fitsWord_iff]

theorem checkPair_eq_none_iff (w : Width) (rq : Request) :
    checkPair w rq = none ↔ IsWord w rq.X0 ∧ IsWord w rq.X1 := by
  simp [checkPair, checkPorts_eq_none_iff]

theorem checkSingle_eq_none_iff (w : Width) (rq : Request) : checkSingle w rq = none ↔ IsWord w rq.X0 := by
  simp [checkSingle, checkPorts_eq_none_iff]

theorem checkRounds_eq_none_iff (r : Nat) : checkRounds r = none ↔ r ≤ 255 := by
  unfold checkRounds Config.roundMax
  split <;> simp_all

theorem checkBlock_eq_none_iff (w : Width) (r : Nat) (rq : Request) :
    checkBlock w r rq = none ↔ (IsWord w rq.X0 ∧ IsWord w rq.X1) ∧ r ≤ 255 := by
  simp [checkBlock, checkPair_eq_none_iff, checkRounds_eq_none_iff]

end Machine

end Sys2Proof
end

section
/-!
SUPPORT. PACK: the cells of the packed key are the byte sums of the reference (20_memory.md R55).
-/

namespace Sys2Proof.Machine

/-- A write, seen in the list of the first cells. -/
theorem Memory.toList_write {m depth : Nat} {cells : Memory m} (h : Memory.wf depth cells) (count a : Nat)
    (v : BitVec m) : Memory.toList count (Memory.write cells a v) = (Memory.toList count cells).set a v := by
  refine List.ext_getElem (by simp) fun q _ _ => ?_
  simp [Memory.toList, Memory.read_write h, List.getElem_set, eq_comm]

/-- The modulus of a width in bytes. -/
theorem modulus_eq_pow_bytes (w : Width) : 2 ^ w.bits = 256 ^ w.bytes := by
  rw [w.bits_eq, Nat.pow_mul]

/-- `L[q]` while PACK runs, key bytes `m` to `n - 1` done: those of them that lie in Word `q`, each at its
lane. -/
def packedFrom (w : Width) (n : Nat) (buf : Memory 8) (m q : Nat) : Nat :=
  (((List.range' m (n - m)).filter fun h => h / w.bytes == q).map
    fun h => (Memory.read buf h).toNat * 256 ^ (h % w.bytes)).sum

theorem packedFrom_zero (w : Width) (n : Nat) (buf : Memory 8) (q : Nat) :
    packedFrom w n buf 0 q = Reference.packedSum w n buf q := by
  simp [packedFrom, Reference.packedSum, List.range_eq_range']

theorem packedFrom_self (w : Width) (n : Nat) (buf : Memory 8) (q : Nat) : packedFrom w n buf n q = 0 := by
  simp [packedFrom]

/-- One more key byte, the one below those done. -/
theorem packedFrom_of_lt (w : Width) {n m : Nat} (hm : m < n) (buf : Memory 8) (q : Nat) :
    packedFrom w n buf m q =
      (if m / w.bytes = q then (Memory.read buf m).toNat * 256 ^ (m % w.bytes) else 0)
        + packedFrom w n buf (m + 1) q := by
  have e : n - m = n - (m + 1) + 1 := by omega
  simp only [packedFrom, e, List.range'_succ, List.filter_cons, beq_iff_eq]
  split <;> simp

/-- What holds in PACK when the key bytes `m` to `n - 1` are done. A Word of which the bytes from `m` on are
done holds them shifted down to its low end, and nothing above them. -/
structure PackedTo (w : Width) (n m : Nat) (s : State) : Prop where
  wf : Memory.wf Config.keyDepth s.L
  index : s.h.val = m - 1
  sum : ∀ q < keyWords w n,
    (Memory.read s.L q).toNat * 256 ^ (m - q * w.bytes) = packedFrom w n s.RQ.BUF m q
  low : ∀ q < keyWords w n, (Memory.read s.L q).toNat < 256 ^ (w.bytes - (m - q * w.bytes))

/-- The entry of PACK: no key byte is done. -/
theorem packedTo_enterPack (w : Width) {n : Nat} {s : State} (hn : n ≤ 255)
    (hL : Memory.wf Config.keyDepth s.L) : PackedTo w n n (enterPack w n s) := by
  have hc : keyWords w n ≤ Config.keyDepth := keyWords_le hn w
  have hzero : ∀ q < keyWords w n, Memory.read (enterPack w n s).L q = 0 := fun q hq => by
    show Memory.read (Memory.clear _ s.L) q = 0
    rw [Memory.read_clear hL hc, if_pos hq]
  refine ⟨Memory.wf_clear hL hc, Nat.mod_eq_of_lt (by omega), fun q hq => ?_, fun q hq => ?_⟩
  · simp [hzero q hq, packedFrom_self]
  · simp [hzero q hq]

/-- The new low byte of a Word: shifted up by one lane, the byte below it, with no bit lost while a lane is
free. -/
theorem toNat_shl8_add {w : Width} {x : Carrier} {d : Nat} (hd : d < w.bytes) (hx : x.toNat < 256 ^ d) (b : Byte) :
    (wadd w (shl8 w x) (wordOfByte b)).toNat = x.toNat * 256 + b.toNat ∧
    x.toNat * 256 + b.toNat < 256 ^ (d + 1) := by
  have hb : b.toNat < 256 := b.isLt
  have hlt : x.toNat * 256 + b.toNat < 256 ^ (d + 1) := by
    rw [Nat.pow_succ]
    omega
  have hle : 256 ^ (d + 1) ≤ 2 ^ w.bits := modulus_eq_pow_bytes w ▸ Nat.pow_le_pow_right (by decide) hd
  have hcast : (wordOfByte b).toNat = b.toNat := by
    simp only [wordOfByte, BitVec.toNat_setWidth]
    exact Nat.mod_eq_of_lt (by omega)
  refine ⟨?_, hlt⟩
  simp only [wadd, shl8, toNat_narrow, hcast, Nat.mod_add_mod]
  exact Nat.mod_eq_of_lt (by omega)

/-- A byte that is not in Word `q` is below it or above it. -/
theorem outside_word (w : Width) {m q : Nat} (h : q ≠ m / w.bytes) :
    m < q * w.bytes ∨ q * w.bytes + w.bytes ≤ m := by
  rcases Nat.lt_or_gt_of_ne h with hlt | hgt
  · exact .inr (Nat.succ_mul q w.bytes ▸ (Nat.le_div_iff_mul_le w.bytes_pos).1 hlt)
  · exact .inl ((Nat.div_lt_iff_lt_mul w.bytes_pos).1 hgt)

/-- The Word that an iteration of PACK writes: the byte at `h` under those already in its Word. -/
def packedWord (w : Width) (s : State) : Carrier :=
  wadd w (shl8 w (Memory.read s.L (s.h.val / w.bytes))) (wordOfByte (Memory.read s.RQ.BUF s.h.val))

theorem packIter_L (w : Width) (s : State) :
    (packIter w s).L = Memory.write s.L (s.h.val / w.bytes) (packedWord w s) := rfl

theorem packIter_h (w : Width) (s : State) : (packIter w s).h.val = s.h.val - 1 :=
  Nat.mod_eq_of_lt (by omega)

/-- The Word written has the key byte in its low lane and what was there one lane up, with no bit lost. -/
theorem PackedTo.toNat_packedWord {w : Width} {n m : Nat} {s : State} (h : PackedTo w n (m + 1) s) (hm : m < n) :
    (packedWord w s).toNat =
      (Memory.read s.L (m / w.bytes)).toNat * 256 + (Memory.read s.RQ.BUF m).toNat ∧
    (packedWord w s).toNat < 256 ^ (w.bytes - m % w.bytes) := by
  have hidx : s.h.val = m := h.index
  have hdiv := Nat.div_add_mod' m w.bytes
  have hmod := Nat.mod_lt m w.bytes_pos
  have hfree := h.low _ (div_bytes_lt_keyWords w hm)
  rw [show w.bytes - (m + 1 - m / w.bytes * w.bytes) = w.bytes - 1 - m % w.bytes by omega] at hfree
  obtain ⟨hval, hlt⟩ := toNat_shl8_add (show w.bytes - 1 - m % w.bytes < w.bytes by omega) hfree
    (Memory.read s.RQ.BUF m)
  rw [show w.bytes - 1 - m % w.bytes + 1 = w.bytes - m % w.bytes by omega, ← hval] at hlt
  rw [packedWord, hidx]
  exact ⟨hval, hlt⟩

/-- One iteration of PACK does the next key byte down. -/
theorem packedTo_packIter {w : Width} {n m : Nat} {s : State} (hn : n ≤ 255) (hm : m < n)
    (h : PackedTo w n (m + 1) s) : PackedTo w n m (packIter w s) := by
  have hidx : s.h.val = m := h.index
  have hcell : m / w.bytes < keyWords w n := div_bytes_lt_keyWords w hm
  have hdiv := Nat.div_add_mod' m w.bytes
  have hlane : m - m / w.bytes * w.bytes = m % w.bytes := by omega
  obtain ⟨hval, hlt⟩ := h.toNat_packedWord hm
  have hL := packIter_L w s
  rw [hidx] at hL
  refine ⟨?_, (packIter_h w s).trans (by rw [hidx]), fun q hq => ?_, fun q hq => ?_⟩
  · rw [hL]
    exact Memory.wf_write h.wf (Nat.lt_of_lt_of_le hcell (keyWords_le hn w)) _
  · rw [hL, Memory.read_write h.wf, packIter_RQ, packedFrom_of_lt w hm, ← h.sum q hq]
    by_cases e : q = m / w.bytes
    · subst e
      rw [if_pos rfl, if_pos rfl, hval, hlane,
        show m + 1 - m / w.bytes * w.bytes = m % w.bytes + 1 by omega, Nat.pow_succ]
      ring
    · rw [if_neg e, if_neg (Ne.symm e), Nat.zero_add]
      rcases outside_word w e with hbelow | habove
      · rw [show m + 1 - q * w.bytes = m - q * w.bytes by omega]
      · have hzero := h.low q hq
        rw [show w.bytes - (m + 1 - q * w.bytes) = 0 by omega, Nat.pow_zero, Nat.lt_one_iff] at hzero
        simp only [hzero, Nat.zero_mul]
  · rw [hL, Memory.read_write h.wf]
    by_cases e : q = m / w.bytes
    · subst e
      rwa [if_pos rfl, hlane]
    · have hsame : w.bytes - (m - q * w.bytes) = w.bytes - (m + 1 - q * w.bytes) := by
        rcases outside_word w e with hbelow | habove <;> omega
      rw [if_neg e, hsame]
      exact h.low q hq

/-- All iterations of PACK do all key bytes. -/
theorem packedTo_iterate {w : Width} {n : Nat} (hn : n ≤ 255) (m : Nat) {s : State} (hm : m ≤ n)
    (h : PackedTo w n m s) : PackedTo w n 0 ((packIter w)^[m] s) := by
  induction m generalizing s with
  | zero => exact h
  | succ m ih => exact ih (Nat.le_of_succ_le hm) (packedTo_packIter hn hm h)

theorem packedTo_packPhase (w : Width) {n : Nat} {s : State} (hn : n ≤ 255)
    (hL : Memory.wf Config.keyDepth s.L) : PackedTo w n 0 (packPhase w n s) :=
  packedTo_iterate hn n le_rfl (packedTo_enterPack w hn hL)

/-- The cells of the packed key after PACK (20_memory.md R55). -/
theorem toNat_read_packPhase (w : Width) {n : Nat} {s : State} (hn : n ≤ 255)
    (hL : Memory.wf Config.keyDepth s.L) {q : Nat} (hq : q < keyWords w n) :
    (Memory.read (packPhase w n s).L q).toNat = Reference.packedSum w n s.RQ.BUF q := by
  have h := (packedTo_packPhase w hn hL).sum q hq
  rwa [Nat.zero_sub, Nat.pow_zero, Nat.mul_one, packPhase_RQ, packedFrom_zero] at h

/-- PACK leaves the packed key of the reference in `L[0..c-1]`. -/
theorem toList_packPhase (w : Width) {n : Nat} {s : State} (hn : n ≤ 255) (hL : Memory.wf Config.keyDepth s.L) :
    Memory.toList (keyWords w n) (packPhase w n s).L = Reference.packedKey w n s.RQ.BUF :=
  List.map_congr_left fun q hq => by
    rw [← toNat_read_packPhase w hn hL (List.mem_range.1 hq), BitVec.ofNat_toNat, BitVec.setWidth_eq]

end Sys2Proof.Machine
end

section
/-!
SUPPORT. INIT: the table by its closed form (43_key_schedule.md R143).
-/

namespace Sys2Proof.Machine

/-- `S[a]` after INIT, `(P_w + a * Q_w) mod 2^w` (43_key_schedule.md R143). -/
def magicWord (w : Width) (a : Nat) : Carrier := narrow w ((romP w).toNat + a * (romQ w).toNat)

theorem magicWord_zero (w : Width) : magicWord w 0 = romP w := by
  rw [magicWord, Nat.zero_mul, Nat.add_zero, narrow_toNat (isWord_romP w)]

theorem magicWord_succ (w : Width) (a : Nat) : magicWord w (a + 1) = wadd w (magicWord w a) (romQ w) := by
  apply BitVec.eq_of_toNat_eq
  simp only [magicWord, wadd, toNat_narrow, Nat.mod_add_mod, Nat.succ_mul, Nat.add_assoc]

/-- What holds in INIT after `m` iterations. The index stays at its last value after the last of them. -/
structure InitTo (w : Width) (r m : Nat) (s : State) : Prop where
  wf : Memory.wf Config.tableDepth s.S
  index : m + 1 < tableSize r → s.i.val = m + 1
  cells : ∀ a ≤ m, Memory.read s.S a = magicWord w a

/-- The entry of INIT: `S[0]` is `P_w`. -/
theorem initTo_enterInit (w : Width) (r : Nat) {s : State} (hS : Memory.wf Config.tableDepth s.S) :
    InitTo w r 0 (enterInit w s) := by
  refine ⟨Memory.wf_write hS (by decide) _, fun _ => rfl, fun a ha => ?_⟩
  obtain rfl := Nat.le_zero.1 ha
  rw [magicWord_zero]
  exact Memory.read_write_same hS 0 _

/-- One iteration of INIT makes the next cell. -/
theorem initTo_initIter {w : Width} {r m : Nat} {s : State} (hr : r ≤ 255) (hm : m + 1 < tableSize r)
    (h : InitTo w r m s) : InitTo w r (m + 1) (initIter w r s) := by
  obtain ⟨hwf, hidx, hcells⟩ := h
  have hidx := hidx hm
  have hsize : tableSize r ≤ Config.tableDepth := tableSize_le hr
  have hS : (initIter w r s).S = Memory.write s.S (m + 1) (magicWord w (m + 1)) := by
    simp only [initIter, hidx, State.setI_S, State.setS_S, Nat.add_sub_cancel, hcells m le_rfl, magicWord_succ]
  refine ⟨?_, fun hnext => ?_, fun a ha => ?_⟩
  · rw [hS]
    exact Memory.wf_write hwf (Nat.lt_of_lt_of_le hm hsize) _
  · simp only [initIter, hidx, State.setI_i, if_pos hnext]
    exact Nat.mod_eq_of_lt (Nat.lt_of_lt_of_le hnext hsize)
  · rw [hS, Memory.read_write hwf]
    split
    · next e => rw [e]
    · next e => exact hcells a (by omega)

theorem initTo_iterate {w : Width} {r : Nat} {s : State} (hr : r ≤ 255) (h : InitTo w r 0 s) (m : Nat)
    (hm : m < tableSize r) : InitTo w r m ((initIter w r)^[m] s) := by
  induction m with
  | zero => exact h
  | succ m ih =>
    rw [Function.iterate_succ_apply']
    exact initTo_initIter hr hm (ih (Nat.lt_of_succ_lt hm))

theorem initTo_initPhase (w : Width) {r : Nat} {s : State} (hr : r ≤ 255)
    (hS : Memory.wf Config.tableDepth s.S) : InitTo w r (tableSize r - 1) (initPhase w r s) :=
  initTo_iterate hr (initTo_enterInit w r hS) _ (by have := tableSize_ge r; omega)

/-- INIT leaves the initial table of the reference in `S[0..T-1]`. -/
theorem toList_initPhase (w : Width) {r : Nat} {s : State} (hr : r ≤ 255) (hS : Memory.wf Config.tableDepth s.S) :
    Memory.toList (tableSize r) (initPhase w r s).S = Reference.magicTable w r :=
  List.map_congr_left fun a ha =>
    (initTo_initPhase w hr hS).cells a (Nat.le_sub_one_of_lt (List.mem_range.1 ha))

end Sys2Proof.Machine
end

section
/-!
SUPPORT. MIX: the machine's loop simulates the reference's over plain lists, and with PACK and INIT before it the
key schedule leaves `expand_key`'s table in `S` (43_key_schedule.md R140, R144).
-/

namespace Sys2Proof.Machine

open Reference (Mixing mixOnce subkeys)

/-- The new `A` of a MIX iteration. -/
def mixedA (w : Width) (s : State) : Carrier :=
  rotl w (wadd w (wadd w (Memory.read s.S s.i.val) s.A) s.B) 3

/-- The new `B` of a MIX iteration, made with the new `A` and the old `B`. -/
def mixedB (w : Width) (s : State) : Carrier :=
  rotl w (wadd w (Memory.read s.L s.j.val) (wadd w (mixedA w s) s.B)) (wadd w (mixedA w s) s.B)

/-- What one iteration of MIX does to the two registers and the two memories: what is written to a cell is what
the register then reads from it. -/
theorem mixIter_work (w : Width) (n r : Nat) {s : State} (hL : Memory.wf Config.keyDepth s.L)
    (hS : Memory.wf Config.tableDepth s.S) :
    (mixIter w n r s).A = mixedA w s ∧ (mixIter w n r s).B = mixedB w s ∧
    (mixIter w n r s).S = Memory.write s.S s.i.val (mixedA w s) ∧
    (mixIter w n r s).L = Memory.write s.L s.j.val (mixedB w s) := by
  have hA : (mixTable w s).A = mixedA w s := Memory.read_write_same hS _ _
  have hB : (mixKey w (mixTable w s)).B = mixedB w s := by
    rw [mixedB, ← hA]
    exact Memory.read_write_same hL _ _
  refine ⟨by simp [mixIter, hA], by simp [mixIter, hB], by simp [mixIter, mixTable, mixedA], ?_⟩
  rw [mixedB, ← hA]
  rfl

/-- The indexes of MIX advance, each wrapping at its own length. -/
theorem mixIter_index (w : Width) {n r : Nat} (s : State) (hn : n ≤ 255) (hr : r ≤ 255) :
    (mixIter w n r s).i.val = (s.i.val + 1) % tableSize r ∧
    (mixIter w n r s).j.val = (s.j.val + 1) % keyWords w n := by
  have hi : (s.i.val + 1) % tableSize r < tableSize r :=
    Nat.mod_lt _ (Nat.lt_of_lt_of_le Nat.two_pos (tableSize_ge r))
  have hj : (s.j.val + 1) % keyWords w n < keyWords w n := Nat.mod_lt _ (keyWords_pos w n)
  exact ⟨Nat.mod_eq_of_lt (Nat.lt_of_lt_of_le hi (tableSize_le hr)),
    Nat.mod_eq_of_lt (Nat.lt_of_lt_of_le hj (keyWords_le hn w))⟩

/-- The machine after `k` iterations of MIX stands for the lists and the two registers of the reference. -/
structure MixedTo (w : Width) (n r k : Nat) (m : Mixing) (s : State) : Prop where
  wfL : Memory.wf Config.keyDepth s.L
  wfS : Memory.wf Config.tableDepth s.S
  regA : s.A = m.A
  regB : s.B = m.B
  table : Memory.toList (tableSize r) s.S = m.S
  key : Memory.toList (keyWords w n) s.L = m.L
  indexS : s.i.val = k % tableSize r
  indexL : s.j.val = k % keyWords w n

section mixOnce
variable {w : Width} {n r k : Nat} {m : Mixing} {s : State} (h : MixedTo w n r k m s)
include h

/-- The reference makes the new `A` of the machine. -/
theorem mixOnce_A : (mixOnce w m k).A = mixedA w s := by
  have hk : k % tableSize r < tableSize r := Nat.mod_lt _ (Nat.lt_of_lt_of_le Nat.two_pos (tableSize_ge r))
  simp only [mixOnce, mixedA, ← h.table, ← h.regA, ← h.regB, h.indexS, Memory.length_toList,
    Memory.getD_toList _ _ hk]

/-- The reference makes the new `B` of the machine. -/
theorem mixOnce_B : (mixOnce w m k).B = mixedB w s := by
  have hk : k % keyWords w n < keyWords w n := Nat.mod_lt _ (keyWords_pos w n)
  rw [mixedB, ← mixOnce_A h]
  simp only [mixOnce, ← h.key, ← h.regB, h.indexL, Memory.length_toList, Memory.getD_toList _ _ hk]

/-- The reference writes the new `A` to the cell the machine writes. -/
theorem mixOnce_S : (mixOnce w m k).S = m.S.set s.i.val (mixedA w s) := by
  rw [← mixOnce_A h, h.indexS, ← Memory.length_toList (tableSize r) s.S, h.table]
  rfl

/-- The reference writes the new `B` to the cell the machine writes. -/
theorem mixOnce_L : (mixOnce w m k).L = m.L.set s.j.val (mixedB w s) := by
  rw [← mixOnce_B h, h.indexL, ← Memory.length_toList (keyWords w n) s.L, h.key]
  rfl

/-- One iteration of MIX is one iteration of the reference. -/
theorem mixedTo_mixIter (hn : n ≤ 255) (hr : r ≤ 255) :
    MixedTo w n r (k + 1) (mixOnce w m k) (mixIter w n r s) := by
  obtain ⟨hA, hB, hS, hL⟩ := mixIter_work w n r h.wfL h.wfS
  obtain ⟨hi, hj⟩ := mixIter_index w s hn hr
  refine ⟨?_, ?_, hA.trans (mixOnce_A h).symm, hB.trans (mixOnce_B h).symm, ?_, ?_, ?_, ?_⟩
  · rw [hL]
    exact Memory.wf_write h.wfL s.j.isLt _
  · rw [hS]
    exact Memory.wf_write h.wfS s.i.isLt _
  · rw [hS, Memory.toList_write h.wfS, h.table, mixOnce_S h]
  · rw [hL, Memory.toList_write h.wfL, h.key, mixOnce_L h]
  · rw [hi, h.indexS, Nat.mod_add_mod]
  · rw [hj, h.indexL, Nat.mod_add_mod]

end mixOnce

theorem mixedTo_iterate {w : Width} {n r : Nat} {m : Mixing} {s : State} (hn : n ≤ 255) (hr : r ≤ 255)
    (h : MixedTo w n r 0 m s) (k : Nat) :
    MixedTo w n r k ((List.range k).foldl (mixOnce w) m) ((mixIter w n r)^[k] s) := by
  induction k with
  | zero => exact h
  | succ k ih =>
    rw [Function.iterate_succ_apply', List.range_succ, List.foldl_append]
    exact mixedTo_mixIter ih hn hr

/-- The entry of MIX: the two registers start at zero, the memories as they stand. -/
theorem mixedTo_enterMix (w : Width) (n r : Nat) {s : State} (hs : s.MemoriesInForm) :
    MixedTo w n r 0
      { A := 0, B := 0, S := Memory.toList (tableSize r) s.S, L := Memory.toList (keyWords w n) s.L }
      (enterMix s) :=
  ⟨hs.1, hs.2, rfl, rfl, rfl, rfl, (Nat.zero_mod _).symm, (Nat.zero_mod _).symm⟩

/-- PACK and INIT keep the memories in form and leave in them what the reference starts from. -/
theorem initPhase_packPhase_memories (w : Width) {n r : Nat} {s : State} (hn : n ≤ 255) (hr : r ≤ 255)
    (hs : s.MemoriesInForm) :
    (initPhase w r (packPhase w n s)).MemoriesInForm ∧
    Memory.toList (keyWords w n) (initPhase w r (packPhase w n s)).L = Reference.packedKey w n s.RQ.BUF ∧
    Memory.toList (tableSize r) (initPhase w r (packPhase w n s)).S = Reference.magicTable w r := by
  obtain ⟨hL, hS⟩ := hs
  have hS' : Memory.wf Config.tableDepth (packPhase w n s).S := by rwa [packPhase_S]
  rw [State.MemoriesInForm, initPhase_L]
  exact ⟨⟨(packedTo_packPhase w hn hL).wf, (initTo_initPhase w hr hS').wf⟩, toList_packPhase w hn hL,
    toList_initPhase w hr hS'⟩

/-- The key schedule leaves the table of `expand_key` in `S[0..T-1]` (43_key_schedule.md R140). -/
theorem toList_keySchedule (w : Width) {n r : Nat} {s : State} (hn : n ≤ 255) (hr : r ≤ 255)
    (hs : s.MemoriesInForm) :
    Memory.toList (tableSize r) (keySchedule w n r s).S = subkeys w n r s.RQ.BUF := by
  obtain ⟨hform, hkey, htable⟩ := initPhase_packPhase_memories w hn hr hs
  have hmixed := mixedTo_iterate hn hr (mixedTo_enterMix w n r hform) (mixCount w n r)
  rw [hkey, htable] at hmixed
  exact hmixed.table

end Sys2Proof.Machine
end

section
/-!
SUPPORT. The block transform: the rounds of ENC and DEC on a state whose table reads as the reference's list
(44_block_transform.md R160, R161).
-/

namespace Sys2Proof.Machine

open Reference (encryptBlock decryptBlock subkeys)

/-- Round `t + 1` of `encrypt` (44_block_transform.md R160). -/
def encStep (w : Width) (tbl : List Carrier) (ab : Carrier × Carrier) (t : Nat) : Carrier × Carrier :=
  let a := wadd w (rotl w (wxor ab.1 ab.2) ab.2) (tbl.getD (2 * (t + 1)) 0)
  (a, wadd w (rotl w (wxor ab.2 a) a) (tbl.getD (2 * (t + 1) + 1) 0))

/-- Round `t + 1` of `decrypt` (44_block_transform.md R161). -/
def decStep (w : Width) (tbl : List Carrier) (t : Nat) (ab : Carrier × Carrier) : Carrier × Carrier :=
  let b := wxor (rotr w (wsub w ab.2 (tbl.getD (2 * (t + 1) + 1) 0)) ab.1) ab.1
  (wxor (rotr w (wsub w ab.1 (tbl.getD (2 * (t + 1)) 0)) b) b, b)

theorem encryptBlock_eq (w : Width) (tbl : List Carrier) (r : Nat) (a0 b0 : Carrier) :
    encryptBlock w tbl r a0 b0 =
      (List.range r).foldl (encStep w tbl) (wadd w a0 (tbl.getD 0 0), wadd w b0 (tbl.getD 1 0)) := rfl

theorem decryptBlock_eq (w : Width) (tbl : List Carrier) (r : Nat) (a0 b0 : Carrier) :
    decryptBlock w tbl r a0 b0 =
      (wsub w ((List.range r).foldr (decStep w tbl) (a0, b0)).1 (tbl.getD 0 0),
       wsub w ((List.range r).foldr (decStep w tbl) (a0, b0)).2 (tbl.getD 1 0)) := rfl

/-- The table memory reads as the list `tbl` of the subkeys of `r` rounds. -/
def HoldsTable (r : Nat) (tbl : List Carrier) (s : State) : Prop :=
  ∀ a < tableSize r, tbl.getD a 0 = Memory.read s.S a

/-- The key schedule holds the reference's subkeys. -/
theorem holdsTable_keySchedule (w : Width) {n r : Nat} {s : State} (hn : n ≤ 255) (hr : r ≤ 255)
    (hs : s.MemoriesInForm) : HoldsTable r (subkeys w n r s.RQ.BUF) (keySchedule w n r s) := fun a ha => by
  rw [← toList_keySchedule w hn hr hs, Memory.getD_toList _ _ ha]

/-- One round of ENC is one round of `encrypt`. -/
theorem encRound_block {w : Width} {r t : Nat} {tbl : List Carrier} {s : State} (htbl : HoldsTable r tbl s)
    (ht : t < r) (hrnd : s.rnd.val = t + 1) :
    ((encRound w r s).A, (encRound w r s).B) = encStep w tbl (s.A, s.B) t := by
  rw [encStep, htbl _ (show 2 * (t + 1) < tableSize r by simp only [tableSize]; omega),
    htbl _ (show 2 * (t + 1) + 1 < tableSize r by simp only [tableSize]; omega), ← hrnd]
  rfl

/-- ROUNDS of ENC, after `t` of the `r` rounds: the block is the reference's, and the next round, if there is
one, is the next in order. -/
theorem encRound_iterate {w : Width} {r : Nat} {tbl : List Carrier} {s : State} (hr : r ≤ 255)
    (htbl : HoldsTable r tbl s) (hrnd : s.rnd.val = 1) (t : Nat) (ht : t ≤ r) :
    (((encRound w r)^[t] s).A, ((encRound w r)^[t] s).B) = (List.range t).foldl (encStep w tbl) (s.A, s.B) ∧
    (t < r → ((encRound w r)^[t] s).rnd.val = t + 1) := by
  induction t with
  | zero => exact ⟨rfl, fun _ => hrnd⟩
  | succ t ih =>
    obtain ⟨hblock, hidx⟩ := ih (Nat.le_of_succ_le ht)
    have hidx := hidx ht
    have hS : ((encRound w r)^[t] s).S = s.S := iterate_keeps _ State.S (encRound_S w r) _ _
    rw [Function.iterate_succ_apply', List.range_succ, List.foldl_append, ← hblock]
    refine ⟨encRound_block (fun a ha => hS ▸ htbl a ha) ht hidx, fun hnext => ?_⟩
    simp only [encRound, State.setRnd_rnd, hidx, if_pos hnext]
    exact Nat.mod_eq_of_lt (by omega)

/-- One round of DEC is one round of `decrypt`. -/
theorem decRound_block {w : Width} {r t : Nat} {tbl : List Carrier} {s : State} (htbl : HoldsTable r tbl s)
    (ht : t < r) (hrnd : s.rnd.val = t + 1) :
    ((decRound w s).A, (decRound w s).B) = decStep w tbl t (s.A, s.B) := by
  rw [decStep, htbl _ (show 2 * (t + 1) < tableSize r by simp only [tableSize]; omega),
    htbl _ (show 2 * (t + 1) + 1 < tableSize r by simp only [tableSize]; omega), ← hrnd]
  rfl

/-- ROUNDS of DEC from round `t` down to round 1. -/
theorem decRound_iterate {w : Width} {r : Nat} {tbl : List Carrier} (t : Nat) {s : State}
    (htbl : HoldsTable r tbl s) (ht : t ≤ r) (hrnd : 0 < t → s.rnd.val = t) :
    (((decRound w)^[t] s).A, ((decRound w)^[t] s).B) = (List.range t).foldr (decStep w tbl) (s.A, s.B) := by
  induction t generalizing s with
  | zero => rfl
  | succ t ih =>
    have hidx := hrnd t.succ_pos
    rw [Function.iterate_succ_apply, List.range_succ, List.foldr_append,
      ih (fun a ha => by rw [decRound_S]; exact htbl a ha) (Nat.le_of_succ_le ht) fun hpos => ?_,
      decRound_block htbl ht hidx]
    · rfl
    · simp only [decRound, State.setRnd_rnd, hidx, if_pos (Nat.succ_lt_succ hpos)]
      exact Nat.mod_eq_of_lt (by omega)

/-- ENC from PRE on, given its table, is `encrypt` (44_block_transform.md R160). -/
theorem encRounds_prePhase {w : Width} {r : Nat} {tbl : List Carrier} {s : State} (hr : r ≤ 255)
    (htbl : HoldsTable r tbl s) (h0 : IsWord w s.RQ.X0) (h1 : IsWord w s.RQ.X1) :
    ((encRounds w r (prePhase w s)).A, (encRounds w r (prePhase w s)).B) =
      encryptBlock w tbl r s.RQ.X0 s.RQ.X1 := by
  have hT := tableSize_ge r
  have hpre : ((prePhase w s).A, (prePhase w s).B) =
      (wadd w s.RQ.X0 (tbl.getD 0 0), wadd w s.RQ.X1 (tbl.getD 1 0)) := by
    rw [htbl 0 (by omega), htbl 1 (by omega)]
    simp [prePhase, portWord_eq h0, portWord_eq h1]
  obtain ⟨hblock, -⟩ := encRound_iterate (w := w) (s := prePhase w s) hr htbl rfl r le_rfl
  rw [encryptBlock_eq, ← hpre]
  exact hblock

/-- DEC from ROUNDS on, given its table, is `decrypt` (44_block_transform.md R161). -/
theorem postPhase_decRounds {w : Width} {r : Nat} {tbl : List Carrier} {s : State} (hr : r ≤ 255)
    (htbl : HoldsTable r tbl s) (h0 : IsWord w s.RQ.X0) (h1 : IsWord w s.RQ.X1) :
    ((postPhase w ((decRounds w r (enterDecRounds w r s)).setPH .post)).A,
     (postPhase w ((decRounds w r (enterDecRounds w r s)).setPH .post)).B) =
      decryptBlock w tbl r s.RQ.X0 s.RQ.X1 := by
  have hT := tableSize_ge r
  have henter : ((enterDecRounds w r s).A, (enterDecRounds w r s).B) = (s.RQ.X0, s.RQ.X1) := by
    simp [enterDecRounds, portWord_eq h0, portWord_eq h1]
  have hblock : ((decRounds w r (enterDecRounds w r s)).A, (decRounds w r (enterDecRounds w r s)).B) = _ :=
    decRound_iterate (s := enterDecRounds w r s) r htbl le_rfl fun _ => Nat.mod_eq_of_lt (Nat.lt_succ_of_le hr)
  rw [decryptBlock_eq, ← henter, ← hblock, htbl 0 (by omega), htbl 1 (by omega)]
  simp [postPhase]

/-- ENC builds the block of `encrypt` under the expanded key (44_block_transform.md R160). -/
theorem encWork_RSP {w : Width} {n r : Nat} {s : State} (hn : n ≤ 255) (hr : r ≤ 255) (hs : s.MemoriesInForm)
    (h0 : IsWord w s.RQ.X0) (h1 : IsWord w s.RQ.X1) :
    (encWork w n r s).RSP = Reference.result (.enc w n r) s.RQ := by
  have htbl := holdsTable_keySchedule w hn hr hs
  rw [← keySchedule_RQ w n r s] at h0 h1
  have hblock := encRounds_prePhase (s := (keySchedule w n r s).setPH .pre) hr htbl h0 h1
  rw [State.setPH_RQ, keySchedule_RQ] at hblock
  simp only [Reference.result, ← hblock]
  rfl

/-- DEC builds the block of `decrypt` under the expanded key (44_block_transform.md R161). -/
theorem decWork_RSP {w : Width} {n r : Nat} {s : State} (hn : n ≤ 255) (hr : r ≤ 255) (hs : s.MemoriesInForm)
    (h0 : IsWord w s.RQ.X0) (h1 : IsWord w s.RQ.X1) :
    (decWork w n r s).RSP = Reference.result (.dec w n r) s.RQ := by
  have htbl := holdsTable_keySchedule w hn hr hs
  rw [← keySchedule_RQ w n r s] at h0 h1
  have hblock := postPhase_decRounds hr htbl h0 h1
  rw [keySchedule_RQ] at hblock
  simp only [Reference.result, ← hblock]
  rfl

end Sys2Proof.Machine
end

section
/-!
SUPPORT. A whole command: what it answers when a check fails and when all pass, and the step that runs it
(70_reset_and_hazards.md R215).
-/

namespace Sys2Proof.Machine

/-- The work of a command after CHECK, as its meaning runs it. -/
def commandWork : Instr → State → State
  | .add w => addPhase w
  | .sub w => subPhase w
  | .rotl w => rotlPhase w
  | .rotr w => rotrPhase w
  | .tole w => tolePhase w
  | .fromle w _ => fromlePhase w
  | .const w sel => constPhase w sel
  | .expkey w n r => expkeyWork w n r
  | .enc w n r => encWork w n r
  | .dec w n r => decWork w n r

/-- Every meaning is the command of its checks and its work. -/
theorem exec_eq_command (i : Instr) (s : State) : exec i s = command (checkOf i s.RQ) (commandWork i) s := by
  cases i <;> rfl

/-- The work of a command leaves the host's side alone. -/
theorem sameHost_commandWork (i : Instr) (s : State) : SameHost (commandWork i s) s := by
  cases i with
  | expkey w n r => exact sameHost_expkeyWork w n r s
  | enc w n r => exact sameHost_encWork w n r s
  | dec w n r => exact sameHost_decWork w n r s
  | _ => exact SameHost.refl s

/-- The work of a command that passes CHECK builds the result of the reference. -/
theorem commandWork_RSP {i : Instr} {s : State} (hi : i.wf = true) (hs : s.MemoriesInForm)
    (hcheck : checkOf i s.RQ = none) : (commandWork i s).RSP = Reference.result i s.RQ := by
  have hn := Instr.nOperand_le hi
  cases i with
  | add w | sub w | rotl w | rotr w =>
    obtain ⟨h0, h1⟩ := (checkPair_eq_none_iff w s.RQ).1 hcheck
    simp [commandWork, addPhase, subPhase, rotlPhase, rotrPhase, Reference.result, portWord_eq h0, portWord_eq h1]
  | tole w =>
    have h0 := (checkSingle_eq_none_iff w s.RQ).1 hcheck
    simp [commandWork, tolePhase, Reference.result, portWord_eq h0]
  | fromle w n | const w sel => rfl
  | expkey w n r =>
    have hr := (checkRounds_eq_none_iff r).1 hcheck
    exact congrArg Response.table (toList_keySchedule w hn hr hs)
  | enc w n r =>
    obtain ⟨⟨h0, h1⟩, hr⟩ := (checkBlock_eq_none_iff w r s.RQ).1 hcheck
    exact encWork_RSP hn hr hs h0 h1
  | dec w n r =>
    obtain ⟨⟨h0, h1⟩, hr⟩ := (checkBlock_eq_none_iff w r s.RQ).1 hcheck
    exact decWork_RSP hn hr hs h0 h1

/-- A command with a failing check answers that check's status alone (60_exceptions.md R186). -/
theorem exec_of_checkOf_some {i : Instr} {s : State} {e : Status} (h : checkOf i s.RQ = some e) :
    exec i s = .next (s.afterResponse (Response.error e)) := by
  rw [exec_eq_command, h, command_error]

/-- A command whose checks pass answers the result of the reference (30_encoding.md Table R82-a). -/
theorem exec_of_checkOf_none {i : Instr} {s : State} (hi : i.wf = true) (hs : s.MemoriesInForm)
    (h : checkOf i s.RQ = none) : exec i s = .next (s.afterResponse (Reference.result i s.RQ)) := by
  have hrsp : (commandWork i (passCheck s)).RSP = Reference.result i s.RQ := commandWork_RSP hi hs h
  rw [exec_eq_command, h, command_ok (sameHost_commandWork i (passCheck s)), hrsp]

/-! ### The step at CHECK -/

/-- At CHECK with no turn listed the step runs the whole command. -/
theorem step_atCheck {s : State} (h : s.AtCheck) (ha : s.agenda = []) : step s = runCommand s := by
  obtain ⟨hst, hph⟩ := h
  simp only [step, nextMove, ha, engineMove, hst, hph, if_true]

theorem runCommand_of_error {s : State} {e : Reject} (h : decode s.RQ.CMD = .error e) :
    runCommand s = .next (s.afterResponse (Response.error .illegalCommand)) := by
  simp only [runCommand, h]
  rfl

theorem runCommand_of_ok {s : State} {i : Instr} (h : decode s.RQ.CMD = .ok i) : runCommand s = exec i s := by
  simp only [runCommand, h]

theorem respond_of_error {rq : Request} {e : Reject} (h : decode rq.CMD = .error e) :
    Reference.respond rq = Response.error .illegalCommand := by
  simp only [Reference.respond, h]

theorem respond_of_checkOf_some {rq : Request} {i : Instr} {e : Status} (h : decode rq.CMD = .ok i)
    (hc : checkOf i rq = some e) : Reference.respond rq = Response.error e := by
  simp only [Reference.respond, h, hc]

theorem respond_of_checkOf_none {rq : Request} {i : Instr} (h : decode rq.CMD = .ok i)
    (hc : checkOf i rq = none) : Reference.respond rq = Reference.result i rq := by
  simp only [Reference.respond, h, hc]

/-- The whole run of a latched word, legal or not, answers what the reference answers to the request. -/
theorem runCommand_eq_respond {s : State} (hs : s.MemoriesInForm) :
    runCommand s = .next (s.afterResponse (Reference.respond s.RQ)) := by
  cases hdec : decode s.RQ.CMD with
  | error e => rw [runCommand_of_error hdec, respond_of_error hdec]
  | ok i =>
    rw [runCommand_of_ok hdec]
    cases hcheck : checkOf i s.RQ with
    | some e => rw [exec_of_checkOf_some hcheck, respond_of_checkOf_some hdec hcheck]
    | none => rw [exec_of_checkOf_none (wf_of_decode hdec) hs hcheck, respond_of_checkOf_none hdec hcheck]

/-- Settles O45: at CHECK the step is the run of the latched word, and that run answers what the reference answers,
by the split into an illegal word, a failing check, and the result of each command. -/
theorem everyCommandIsAFunctionOfItsRequest : Obligations.EveryCommandIsAFunctionOfItsRequest :=
  fun _ hcheck hagenda hs => (step_atCheck hcheck hagenda).trans (runCommand_eq_respond hs)

end Sys2Proof.Machine
end

section
/-!
SUPPORT. What one step can do: the turn it takes, and what a move of a BUSY engine keeps or completes
(10_state.md R20, R21).
-/

namespace Sys2Proof.Machine

/-! ### Moves that leave the run state and the host's side alone -/

/-- The run state and the host's side of a state: what no move of the sequencer before FINISH touches. -/
def SameRun (s t : State) : Prop := s.ST = t.ST ∧ SameHost s t

section
variable (w : Width) (n r : Nat) (s : State)

theorem sameRun_packMove : SameRun (packMove w n s) s := by
  unfold packMove
  split_ifs <;> simp [SameRun, SameHost]

theorem sameRun_initMove : SameRun (initMove w r s) s := by
  unfold initMove
  split_ifs <;> simp [SameRun, SameHost]

/-- MIX keeps what the entry of the phase after it keeps. -/
theorem sameRun_mixMove {leave : State → State} (hleave : ∀ t, SameRun (leave t) t) :
    SameRun (mixMove w n r leave s) s := by
  have hiter : SameRun (mixIter w n r s) s := by simp [SameRun, SameHost]
  obtain ⟨hst, hhost⟩ := hiter
  obtain ⟨hst', hhost'⟩ := hleave (mixIter w n r s)
  unfold mixMove
  split_ifs
  · exact ⟨hst, hhost⟩
  · exact ⟨hst'.trans hst, hhost'.trans hhost⟩

theorem sameRun_encMove : SameRun (encMove w r s) s := by
  unfold encMove
  split_ifs <;> simp [SameRun, SameHost]

theorem sameRun_decMove : SameRun (decMove w r s) s := by
  unfold decMove
  split_ifs <;> simp [SameRun, SameHost]

/-- CHECK keeps the run state and the host's side, whether the checks pass or fail. -/
theorem sameRun_checkMove (i : Instr) : SameRun (checkMove i s) s := by
  unfold checkMove
  split
  · exact ⟨rfl, SameHost.refl s⟩
  · cases i <;> exact ⟨rfl, SameHost.refl s⟩

/-- The response builder of FINISH leaves the host's side alone. -/
theorem sameHost_buildResponse (i : Instr) : SameHost (buildResponse i s) s := by
  unfold buildResponse
  split_ifs
  · cases i <;> exact SameHost.refl s
  · exact SameHost.refl s

end

/-- EXEC of a Word-abstraction command is its work, which only writes the response. -/
theorem sameRun_execMove {work : State → State} {s t : State} (hwork : SameRun (work s) s)
    (h : execMove work s = some t) : SameRun t s := by
  unfold execMove at h
  split_ifs at h
  cases h
  exact hwork

/-- Every move between CHECK and FINISH keeps the run state and the host's side. -/
theorem sameRun_workMove {i : Instr} {s t : State} (h : workMove i s = some t) : SameRun t s := by
  cases i with
  | expkey w n r =>
    simp only [workMove, expkeyMove] at h
    split at h <;> cases h
    · exact sameRun_packMove w n s
    · exact sameRun_initMove w r s
    · exact sameRun_mixMove w n r s fun t => ⟨rfl, SameHost.refl t⟩
  | enc w n r =>
    simp only [workMove, encSequence] at h
    split at h <;> cases h
    · exact sameRun_packMove w n s
    · exact sameRun_initMove w r s
    · exact sameRun_mixMove w n r s fun t => ⟨rfl, SameHost.refl t⟩
    · exact ⟨rfl, SameHost.refl s⟩
    · exact sameRun_encMove w r s
  | dec w n r =>
    simp only [workMove, decSequence] at h
    split at h <;> cases h
    · exact sameRun_packMove w n s
    · exact sameRun_initMove w r s
    · exact sameRun_mixMove w n r s fun t => ⟨rfl, SameHost.refl t⟩
    · exact sameRun_decMove w r s
    · exact ⟨rfl, SameHost.refl s⟩
  | _ => exact sameRun_execMove ⟨rfl, SameHost.refl s⟩ h

/-! ### The moves of a BUSY engine -/

/-- Completion after a change that leaves the host's side alone delivers one response. -/
theorem complete_of_sameHost {s t : State} (h : SameHost t s) : complete t = s.afterResponse t.RSP := by
  obtain ⟨hp, ha, hr⟩ := h
  rw [complete_eq, afterResponse_congr _ _ _ hp ha hr]

theorem quiet_afterResponse (s : State) (rsp : Response) : (s.afterResponse rsp).Quiet :=
  quiet_complete (s.setRSP rsp)

/-- A move of the sequencer completes the command or keeps the run state and the host's side. -/
theorem tick_cases {s t : State} (h : tick s = .next t) :
    (∃ rsp, t = s.afterResponse rsp) ∨ SameRun t s := by
  unfold tick at h
  split at h
  · cases h
    exact .inr ⟨rfl, SameHost.refl s⟩
  · cases h
    exact .inr (sameRun_checkMove s _)
  · cases h
    exact .inl ⟨_, complete_eq s⟩
  · cases h
    exact .inl ⟨_, complete_of_sameHost (sameHost_buildResponse s _)⟩
  · cases h
  · split at h <;> cases h
    exact .inr (sameRun_workMove ‹_›)

/-- Every command, from every state, completes with one response (60_exceptions.md R187). -/
theorem exec_responds (i : Instr) (s : State) : ∃ rsp, exec i s = .next (s.afterResponse rsp) := by
  cases hcheck : checkOf i s.RQ with
  | some e => exact ⟨_, exec_of_checkOf_some hcheck⟩
  | none =>
    rw [exec_eq_command, hcheck]
    exact ⟨_, command_ok (sameHost_commandWork i (passCheck s))⟩

/-- The run of a latched word, legal or not, completes with one response. -/
theorem runCommand_responds (s : State) : ∃ rsp, runCommand s = .next (s.afterResponse rsp) := by
  cases hdec : decode s.RQ.CMD with
  | error e => exact ⟨_, runCommand_of_error hdec⟩
  | ok i =>
    rw [runCommand_of_ok hdec]
    exact exec_responds i s

/-! ### The turn a step takes -/

/-- The state once the next turn of the agenda, if there is one, is used up. -/
def State.afterTurn (s : State) : State := s.setAgenda s.agenda.tail

section
variable (s : State)
@[simp] theorem State.afterTurn_ST : s.afterTurn.ST = s.ST := rfl
@[simp] theorem State.afterTurn_PH : s.afterTurn.PH = s.PH := rfl
@[simp] theorem State.afterTurn_responses : s.afterTurn.responses = s.responses := rfl
end

/-- An empty agenda stands for a turn of the engine (log entry 2). -/
theorem step_eq_takeTurn (s : State) : step s = takeTurn (s.agenda.headD .engine) s.afterTurn := by
  cases ha : s.agenda with
  | nil =>
    have hs : s.afterTurn = s := by
      rw [State.afterTurn, ha, List.tail_nil, ← ha]
      rfl
    simp only [step, nextMove, ha, hs, takeTurn, List.headD_nil]
  | cons turn rest => simp only [step, nextMove, State.afterTurn, ha, List.headD_cons, List.tail_cons]

/-- A turn that is not the engine's is taken only when it is listed. -/
theorem agenda_eq_cons {s : State} {turn : Turn} (hne : turn ≠ .engine)
    (h : s.agenda.headD .engine = turn) : ∃ rest, s.agenda = turn :: rest := by
  cases ha : s.agenda with
  | nil => exact absurd (by rw [← h, ha]; rfl) hne
  | cons head rest => exact ⟨rest, by rw [← h, ha]; rfl⟩

/-- The engine's own move waits at IDLE; when BUSY it runs the whole command at CHECK, and past CHECK it is a move
of the sequencer. -/
theorem engineMove_cases {s t : State} (h : engineMove s = .next t) :
    t = s ∨ s.ST = .busy ∧ (s.PH = .check ∧ runCommand s = .next t ∨ tick s = .next t) := by
  unfold engineMove at h
  split at h
  case h_1 =>
    cases h
    exact .inl rfl
  case h_2 hst =>
    split_ifs at h with hph
    · exact .inr ⟨hst, .inl ⟨hph, h⟩⟩
    · exact .inr ⟨hst, .inr h⟩

/-- A phase turn waits at IDLE and is a move of the sequencer when BUSY. -/
theorem phaseMove_cases {s t : State} (h : phaseMove s = .next t) :
    t = s ∨ s.ST = .busy ∧ tick s = .next t := by
  unfold phaseMove at h
  split at h
  case h_1 =>
    cases h
    exact .inl rfl
  case h_2 hst => exact .inr ⟨hst, h⟩

/-- Everything a step can do: acceptance of a presented request, a reset, a wait or a drive of the ports, and at
BUSY the run of the whole command or one move of the sequencer (10_state.md R20). -/
theorem step_cases {s t : State} (h : step s = .next t) :
    (∃ rest, s.agenda = .present :: rest) ∧ s.ST = .idle ∧ t = accept s.afterTurn ∨
    (∃ rest, s.agenda = .reset :: rest) ∧ t = clearEngine s.afterTurn ∨
    (∃ rq, t = s.afterTurn.setPorts rq) ∨
    s.ST = .busy ∧ (s.PH = .check ∧ runCommand s.afterTurn = .next t ∨ tick s.afterTurn = .next t) := by
  rw [step_eq_takeTurn] at h
  have hwait : t = s.afterTurn → ∃ rq, t = s.afterTurn.setPorts rq := fun ht => ⟨s.ports, ht⟩
  cases hturn : s.agenda.headD .engine with
  | present =>
    rw [hturn, takeTurn, present] at h
    split_ifs at h with hst <;> cases h
    · exact .inl ⟨agenda_eq_cons (by decide) hturn, hst, rfl⟩
    · exact .inr (.inr (.inl (hwait rfl)))
  | drive rq =>
    rw [hturn] at h
    cases h
    exact .inr (.inr (.inl ⟨rq, rfl⟩))
  | reset =>
    rw [hturn] at h
    cases h
    exact .inr (.inl ⟨agenda_eq_cons (by decide) hturn, rfl⟩)
  | engine =>
    rw [hturn] at h
    exact .inr (.inr ((engineMove_cases h).imp_left hwait))
  | phase =>
    rw [hturn] at h
    exact .inr (.inr ((phaseMove_cases h).imp hwait fun ⟨hst, htick⟩ => ⟨hst, .inr htick⟩))

end Sys2Proof.Machine
end

section
/-!
SUPPORT. The run state `ST` (10_state.md R21): no command reads it, and which steps change it.
-/

namespace Sys2Proof.Machine

/-! ### No command reads the run state -/

/-- An operation that neither reads nor writes the run state. -/
def IgnoresST (f : State → State) : Prop := ∀ (s : State) (v : RunState), f (s.setST v) = (f s).setST v

theorem IgnoresST.comp {f g : State → State} (hf : IgnoresST f) (hg : IgnoresST g) : IgnoresST (f ∘ g) :=
  fun s v => (congrArg f (hg s v)).trans (hf (g s) v)

theorem IgnoresST.iterate {f : State → State} (hf : IgnoresST f) (count : Nat) : IgnoresST f^[count] :=
  fun s v => Function.Commute.iterate_left (g := (State.setST · v)) (fun t => hf t v) count s

section
variable (w : Width) (n r : Nat)

/-- The key schedule: each phase is an entry and its iterations. -/
theorem ignoresST_keySchedule : IgnoresST (keySchedule w n r) := by
  have hpack : IgnoresST (packPhase w n) :=
    .comp (.iterate (f := packIter w) (fun _ _ => rfl) n) (g := enterPack w n) fun _ _ => rfl
  have hinit : IgnoresST (initPhase w r) :=
    .comp (.iterate (f := initIter w r) (fun _ _ => rfl) _) (g := enterInit w) fun _ _ => rfl
  have hmix : IgnoresST (mixPhase w n r) :=
    .comp (.iterate (f := mixIter w n r) (fun _ _ => rfl) _) (g := enterMix) fun _ _ => rfl
  exact hmix.comp (hinit.comp hpack)

theorem ignoresST_encRounds : IgnoresST (encRounds w r) := .iterate (f := encRound w r) (fun _ _ => rfl) r

theorem ignoresST_decRounds : IgnoresST (decRounds w r) := .iterate (f := decRound w) (fun _ _ => rfl) r

end

/-- The work of every command neither reads nor writes the run state. -/
theorem ignoresST_commandWork (i : Instr) : IgnoresST (commandWork i) := by
  cases i with
  | expkey w n r =>
    have hbuild : IgnoresST fun s => tableResponse r (s.setPH .finish) := fun _ _ => rfl
    exact hbuild.comp (ignoresST_keySchedule w n r)
  | enc w n r =>
    have hpre : IgnoresST fun s => prePhase w (s.setPH .pre) := fun _ _ => rfl
    have hbuild : IgnoresST fun s => blockResponse (s.setPH .finish) := fun _ _ => rfl
    exact hbuild.comp ((ignoresST_encRounds w r).comp (hpre.comp (ignoresST_keySchedule w n r)))
  | dec w n r =>
    have henter : IgnoresST (enterDecRounds w r) := fun _ _ => rfl
    have hpost : IgnoresST fun s => blockResponse (postPhase w (s.setPH .post)) := fun _ _ => rfl
    exact hpost.comp ((ignoresST_decRounds w r).comp (henter.comp (ignoresST_keySchedule w n r)))
  | _ => exact fun _ _ => rfl

/-- A command whose work ignores the run state answers alike under every run state: completion clears it. -/
theorem command_setST {work : State → State} (hwork : IgnoresST work) (check : Option Status) (s : State)
    (v : RunState) : command check work (s.setST v) = command check work s := by
  cases check with
  | some e => rfl
  | none =>
    have hpass : work (passCheck (s.setST v)) = (work (passCheck s)).setST v := hwork (passCheck s) v
    simp only [command, hpass]
    rfl

theorem exec_setST (i : Instr) (s : State) (v : RunState) : exec i (s.setST v) = exec i s := by
  rw [exec_eq_command, exec_eq_command, State.setST_RQ]
  exact command_setST (ignoresST_commandWork i) _ s v

/-! ### The steps that change the run state -/

/-- A step as the run state and the host see it: acceptance, reset, completion with one response, or no change. -/
theorem step_runState_cases {s t : State} (h : step s = .next t) :
    (∃ rest, s.agenda = .present :: rest) ∧ s.ST = .idle ∧ t.ST = .busy ∧ t.responses = s.responses ∨
    (∃ rest, s.agenda = .reset :: rest) ∧ t.ST = .idle ∧ t.Quiet ∧ t.responses = s.responses ∨
    s.ST = .busy ∧ t.ST = .idle ∧ t.Quiet ∧ (∃ rsp, t.responses = s.responses ++ [rsp]) ∨
    t.ST = s.ST ∧ t.responses = s.responses := by
  obtain ⟨hag, hst, rfl⟩ | ⟨hag, rfl⟩ | ⟨rq, rfl⟩ | ⟨hst, hmove⟩ := step_cases h
  · exact .inl ⟨hag, hst, rfl, rfl⟩
  · exact .inr (.inl ⟨hag, rfl, quiet_clearEngine _, rfl⟩)
  · exact .inr (.inr (.inr ⟨rfl, rfl⟩))
  have hbusy : (∃ rsp, t = s.afterTurn.afterResponse rsp) ∨ SameRun t s.afterTurn := by
    obtain ⟨-, hrun⟩ | htick := hmove
    · obtain ⟨rsp, hrsp⟩ := runCommand_responds s.afterTurn
      exact .inl ⟨rsp, Host.Outcome.next.inj (hrun.symm.trans hrsp)⟩
    · exact tick_cases htick
  obtain ⟨rsp, rfl⟩ | ⟨hkeep, -, -, hresp⟩ := hbusy
  · exact .inr (.inr (.inl ⟨hst, rfl, quiet_afterResponse _ rsp, rsp, rfl⟩))
  · exact .inr (.inr (.inr ⟨hkeep, hresp⟩))

/-- Settles O5: the four kinds of step, each checked against the three clauses on `ST` and the responses; and
`exec` commutes with a write of `ST`, which its completion clears. -/
theorem runStateChangesOnlyAtAcceptanceAndCompletion :
    Obligations.RunStateChangesOnlyAtAcceptanceAndCompletion := by
  refine ⟨fun s t h => ?_, exec_setST⟩
  obtain ⟨hag, hs, ht, hresp⟩ | ⟨hag, ht, hquiet, hresp⟩ | ⟨hs, ht, hquiet, hresp⟩ | ⟨hst, hresp⟩ :=
    step_runState_cases h
  · exact ⟨fun _ _ => hag, fun hbusy => by simp [hs] at hbusy, .inl hresp⟩
  · exact ⟨fun _ hbusy => by simp [ht] at hbusy, fun _ _ => ⟨hquiet, .inl hag⟩, .inl hresp⟩
  · exact ⟨fun hidle => by simp [hs] at hidle, fun _ _ => ⟨hquiet, .inr hresp⟩, .inr ⟨hs, ht, hresp⟩⟩
  · exact ⟨fun hidle hbusy => by simp [hst, hidle] at hbusy, fun hbusy hidle => by simp [hst, hbusy] at hidle,
      .inl hresp⟩

end Sys2Proof.Machine
end

section
/-!
SUPPORT. A command word as four bytes (20_memory.md R66): the bytes of a word put together again are the word, so
the byte decoder answers what the word decoder answers.
-/

namespace Sys2Proof

/-- Byte `k` as the spec writes it, `v[8k+7:8k]` (00_scope.md R10), is the bit slice of 8 bits from bit `8k` on. -/
theorem ofNat_slice_byte {m : Nat} (v : BitVec m) (k : Nat) :
    BitVec.ofNat 8 (slice v (8 * k + 7) (8 * k)) = v.extractLsb' (8 * k) 8 := by
  have hlen : 8 * k + 7 + 1 - 8 * k = 8 := by omega
  apply BitVec.eq_of_toNat_eq
  rw [slice, hlen, BitVec.toNat_ofNat, Nat.mod_mod, BitVec.extractLsb'_toNat, Nat.shiftRight_eq_div_pow]

/-- A word is its bytes put together, least significant byte first. -/
theorem wordOfBytes_extractLsb' (c : BitVec 32) :
    wordOfBytes (c.extractLsb' 0 8) (c.extractLsb' 8 8) (c.extractLsb' 16 8) (c.extractLsb' 24 8) = c := by
  have hc : c.toNat < 2 ^ 32 := c.isLt
  apply BitVec.eq_of_toNat_eq
  simp only [wordOfBytes, BitVec.toNat_ofNat, BitVec.extractLsb'_toNat, Nat.shiftRight_eq_div_pow]
  omega

/-- Four bytes or more decode as their command word does, with the bytes after the fourth left over. -/
theorem decodeBytes_four_cons (b0 b1 b2 b3 : Byte) (rest : List Byte) :
    decodeBytes (b0 :: b1 :: b2 :: b3 :: rest) = (decode (wordOfBytes b0 b1 b2 b3)).map (·, rest) := by
  simp only [decodeBytes]
  cases decode (wordOfBytes b0 b1 b2 b3) with
  | error e => rfl
  | ok i => rfl

/-- The byte decoder answers on the bytes of a word, legal or not, what the word decoder answers on the word. -/
theorem decodeBytes_bytes_of_word (c : BitVec 32) (rest : List Byte) :
    decodeBytes (c.extractLsb' 0 8 :: c.extractLsb' 8 8 :: c.extractLsb' 16 8 :: c.extractLsb' 24 8 :: rest)
      = (decode c).map (·, rest) := by
  rw [decodeBytes_four_cons, wordOfBytes_extractLsb']

/-- The bytes of a command are those of its word, in that order. -/
theorem encodeBytes_eq (i : Instr) :
    encodeBytes i = [(encode i).extractLsb' 0 8, (encode i).extractLsb' 8 8, (encode i).extractLsb' 16 8,
      (encode i).extractLsb' 24 8] := by
  simp only [encodeBytes, ofNat_slice_byte]
  rfl

/-- Settles O11: the four bytes of a word make that word again, and each byte the encoder lists is a bit slice of
the command's word. -/
theorem commandWordsAreSerialisedLeastSignificantByteFirst :
    Obligations.CommandWordsAreSerialisedLeastSignificantByteFirst := by
  refine ⟨fun c rest => ?_, encodeBytes_eq, by decide⟩
  rw [decodeBytes_bytes_of_word]
  exact ⟨fun i legal => by rw [legal]; rfl, fun e illegal => by rw [illegal]; rfl⟩

end Sys2Proof
end

section
/-!
SUPPORT. The fields of a command word, and a word spells a command exactly when its fields are that command's
(30_encoding.md R71 to R75).
-/

namespace Sys2Proof

/-! ### Fields as bit slices -/

/-- A slice of a bitwise conjunction is the conjunction of the slices. -/
theorem slice_and {m : Nat} (v u : BitVec m) (hi lo : Nat) :
    slice (v &&& u) hi lo = slice v hi lo &&& slice u hi lo := by
  simp only [slice, BitVec.toNat_and, Nat.and_div_two_pow, Nat.and_mod_two_pow]

theorem toNat_extractLsb'_eq {m : Nat} (v : BitVec m) (lo len : Nat) :
    (v.extractLsb' lo len).toNat = v.toNat / 2 ^ lo % 2 ^ len := by
  rw [BitVec.extractLsb'_toNat, Nat.shiftRight_eq_div_pow]

theorem toNat_opBits (c : BitVec 32) : (c.extractLsb' 0 4).toNat = opField c := toNat_extractLsb'_eq c 0 4

theorem toNat_wselBits (c : BitVec 32) : (c.extractLsb' 4 3).toNat = wselField c := toNat_extractLsb'_eq c 4 3

theorem toNat_nBits (c : BitVec 32) : (c.extractLsb' 8 8).toNat = nField c := toNat_extractLsb'_eq c 8 8

theorem toNat_rBits (c : BitVec 32) : (c.extractLsb' 16 16).toNat = rField c := toNat_extractLsb'_eq c 16 16

theorem getLsbD_seven_iff (c : BitVec 32) : c.getLsbD 7 = true ↔ z7Field c ≠ 0 := by
  have hbit : c.getLsbD 7 = decide (z7Field c = 1) := Nat.testBit_eq_decide_div_mod_eq
  obtain ⟨_, _, hz, _, _⟩ := fields_arith c
  rw [hbit, decide_eq_true_iff]
  omega

/-- Two command words are equal exactly when their fields are. -/
theorem eq_iff_fields (c d : BitVec 32) :
    c = d ↔ opField c = opField d ∧ wselField c = wselField d ∧ z7Field c = z7Field d ∧
      nField c = nField d ∧ rField c = rField d := by
  refine ⟨fun h => by simp [h], fun ⟨ho, hw, hz, hn, hr⟩ => BitVec.eq_of_toNat_eq ?_⟩
  rw [toNat_eq_fields c, toNat_eq_fields d, ho, hw, hz, hn, hr]

/-! ### The fields of a legal word -/

theorem widthOfSel_eq_some_iff (n : Nat) (w : Width) : widthOfSel n = some w ↔ n = w.sel := by
  refine ⟨fun h => ?_, fun h => h ▸ widthOfSel_sel w⟩
  unfold widthOfSel at h
  split at h <;> cases h <;> rfl

theorem widthOfSel_eq_none_iff (n : Nat) : widthOfSel n = none ↔ 5 ≤ n := by
  unfold widthOfSel
  split <;> simp_all
  omega

theorem constSelOf_eq_some_iff (n : Nat) (sel : ConstSel) : constSelOf n = some sel ↔ n = sel.code := by
  refine ⟨fun h => ?_, fun h => h ▸ constSelOf_code sel⟩
  unfold constSelOf at h
  split at h <;> cases h <;> rfl

theorem constSelOf_eq_none_iff (n : Nat) : constSelOf n = none ↔ 4 ≤ n := by
  unfold constSelOf
  split <;> simp_all
  omega

/-- The operation, count and round count of a command that the operation decoder answers. -/
theorem fields_of_decodeOp {c : BitVec 32} {w : Width} {i : Instr} (h : decodeOp c w = .ok i) :
    i.width = w ∧ opField c = i.opcode ∧ nField c = i.nOperand ∧ rField c = i.rOperand := by
  unfold decodeOp at h
  split at h
  case h_1 hop | h_2 hop | h_3 hop | h_4 hop | h_5 hop =>
    obtain ⟨hn, hr, rfl⟩ := (bareCommand_eq_ok_iff _ _ _).1 h
    exact ⟨rfl, hop, hn, hr⟩
  case h_6 hop =>
    split_ifs at h with hr
    cases h
    exact ⟨rfl, hop, rfl, not_not.1 hr⟩
  case h_7 hop =>
    split_ifs at h with hr
    split at h <;> cases h
    case h_2 sel hsel => exact ⟨rfl, hop, (constSelOf_eq_some_iff _ _).1 hsel, not_not.1 hr⟩
  case h_8 hop | h_9 hop | h_10 hop =>
    cases h
    exact ⟨rfl, hop, rfl, rfl⟩
  case h_11 => cases h

theorem decodeOp_of_fields {c : BitVec 32} {i : Instr} (hop : opField c = i.opcode) (hn : nField c = i.nOperand)
    (hr : rField c = i.rOperand) : decodeOp c i.width = .ok i := by
  cases i <;> simp_all [decodeOp, bareCommand, Instr.opcode, Instr.nOperand, Instr.rOperand, Instr.width]

/-- A word spells a command exactly when its five fields are the command's own (30_encoding.md R71). -/
theorem decode_eq_ok_iff (c : BitVec 32) (i : Instr) :
    decode c = .ok i ↔ opField c = i.opcode ∧ wselField c = i.width.sel ∧ z7Field c = 0 ∧
      nField c = i.nOperand ∧ rField c = i.rOperand := by
  constructor
  · intro h
    unfold decode at h
    split_ifs at h with hz
    split at h
    case h_1 => cases h
    case h_2 w hw =>
      obtain ⟨rfl, hop, hn, hr⟩ := fields_of_decodeOp h
      exact ⟨hop, (widthOfSel_eq_some_iff _ _).1 hw, not_not.1 hz, hn, hr⟩
  · rintro ⟨hop, hw, hz, hn, hr⟩
    simp [decode, hz, hw, decodeOp_of_fields hop hn hr]

theorem exists_error_iff_not_ok (c : BitVec 32) : (∃ e, decode c = .error e) ↔ ¬ ∃ i, decode c = .ok i := by
  cases decode c <;> simp

end Sys2Proof
end

section
/-!
SUPPORT. The opcode map (30_encoding.md R76, R77): a row's mask keeps the fields it fixes, so a word with a legal
`WSEL` matches a row exactly when it spells a command with the row's mnemonic.
-/

namespace Sys2Proof

/-! ### Matching a row -/

/-- A mask of the opcode map: all of `OP` and bit 7, none of `WSEL`, the bits `nm` of `N` and `rm` of `R`
(30_encoding.md Table R76-a). -/
def rowMask (nm rm : Nat) : BitVec 32 := BitVec.ofNat 32 (0x8F + 256 * nm + 65536 * rm)

theorem fields_rowMask {nm rm : Nat} (hn : nm < 256) (hr : rm < 65536) :
    opField (rowMask nm rm) = 0xF ∧ wselField (rowMask nm rm) = 0 ∧ z7Field (rowMask nm rm) = 1 ∧
      nField (rowMask nm rm) = nm ∧ rField (rowMask nm rm) = rm := by
  have e : (rowMask nm rm).toNat = 0x8F + 256 * nm + 65536 * rm := Nat.mod_eq_of_lt (by omega)
  obtain ⟨ho, hw, hz, hn, hr⟩ := fields_arith (rowMask nm rm)
  rw [e] at ho hw hz hn hr
  refine ⟨?_, ?_, ?_, ?_, ?_⟩ <;> omega

theorem fields_and (c d : BitVec 32) :
    opField (c &&& d) = opField c &&& opField d ∧ wselField (c &&& d) = wselField c &&& wselField d ∧
      z7Field (c &&& d) = z7Field c &&& z7Field d ∧ nField (c &&& d) = nField c &&& nField d ∧
      rField (c &&& d) = rField c &&& rField d :=
  ⟨slice_and .., slice_and .., slice_and .., slice_and .., slice_and ..⟩

/-- A word under a mask of the map is an operation code: `OP` is that code, bit 7 is zero, and so are the kept bits
of `N` and `R`. -/
theorem and_rowMask_eq_iff (c : BitVec 32) {op nm rm : Nat} (ho : op < 16) (hn : nm < 256) (hr : rm < 65536) :
    c &&& rowMask nm rm = BitVec.ofNat 32 op ↔
      opField c = op ∧ z7Field c = 0 ∧ nField c &&& nm = 0 ∧ rField c &&& rm = 0 := by
  obtain ⟨mo, mw, mz, mn, mr⟩ := fields_rowMask hn hr
  obtain ⟨ao, aw, az, an, ar⟩ := fields_and c (rowMask nm rm)
  obtain ⟨cop, cw, cz, cn, cr⟩ := fields_packFields .w8 ho (n := 0) (r := 0) (by decide) (by decide)
  obtain ⟨fop, -, fz, -, -⟩ := fields_arith c
  have hop : opField c &&& 0xF = opField c := Nat.and_two_pow_sub_one_of_lt_two_pow (n := 4) (by omega)
  have hz7 : z7Field c &&& 1 = z7Field c := Nat.and_two_pow_sub_one_of_lt_two_pow (n := 1) (by omega)
  change _ = packFields op .w8 0 0 ↔ _
  simp [eq_iff_fields, ao, aw, az, an, ar, mo, mw, mz, mn, mr, cop, cw, cz, cn, cr, hop, hz7, Width.sel]

/-- The bits of `N` that a command's row fixes at zero (30_encoding.md Table R76-a). -/
def Instr.nMask : Instr → Nat
  | .add _ | .sub _ | .rotl _ | .rotr _ | .tole _ => 0xFF
  | .const _ _ => 0xFC
  | .fromle _ _ | .expkey _ _ _ | .enc _ _ _ | .dec _ _ _ => 0

/-- The bits of `R` that a command's row fixes at zero (30_encoding.md Table R76-a). -/
def Instr.rMask : Instr → Nat
  | .add _ | .sub _ | .rotl _ | .rotr _ | .tole _ | .fromle _ _ | .const _ _ => 0xFFFF
  | .expkey _ _ _ | .enc _ _ _ | .dec _ _ _ => 0

/-- The row of a command. -/
def Instr.row (i : Instr) : OpcodeRow := ⟨i.mnemonic, rowMask i.nMask i.rMask, BitVec.ofNat 32 i.opcode⟩

/-- A command of width `w` for each row of the map, in its order. -/
def commandsOfWidth (w : Width) : List Instr :=
  [.add w, .sub w, .rotl w, .rotr w, .tole w, .fromle w 0, .const w .zero, .expkey w 0 0, .enc w 0 0, .dec w 0 0]

theorem opcodeMap_eq_map_row (w : Width) : opcodeMap = (commandsOfWidth w).map Instr.row := by
  cases w <;> rfl

/-- The rows of the map, each as the row of a command of a given width. -/
theorem exists_row_of_mem {row : OpcodeRow} (h : row ∈ opcodeMap) (w : Width) :
    ∃ i : Instr, i.width = w ∧ row = i.row := by
  rw [opcodeMap_eq_map_row w] at h
  obtain ⟨i, hi, rfl⟩ := List.mem_map.1 h
  have hwidth : ∀ j ∈ commandsOfWidth w, j.width = w := by simp [commandsOfWidth, Instr.width]
  exact ⟨i, hwidth i hi, rfl⟩

/-- The opcode map lists the row of every command. -/
theorem row_mem_opcodeMap (i : Instr) : i.row ∈ opcodeMap := by
  rw [opcodeMap_eq_map_row i.width]
  cases i <;> simp [commandsOfWidth, Instr.width, Instr.row, Instr.nMask, Instr.rMask, Instr.opcode, Instr.mnemonic]

theorem matches_row_iff (c : BitVec 32) (i : Instr) :
    c &&& i.row.mask = i.row.code ↔
      opField c = i.opcode ∧ z7Field c = 0 ∧ nField c &&& i.nMask = 0 ∧ rField c &&& i.rMask = 0 :=
  and_rowMask_eq_iff c i.opcode_lt (by cases i <;> simp [Instr.nMask]) (by cases i <;> simp [Instr.rMask])

/-! ### A row and its commands -/

/-- A command's own counts are zero where its row fixes them. -/
theorem operands_and_masks (i : Instr) : i.nOperand &&& i.nMask = 0 ∧ i.rOperand &&& i.rMask = 0 := by
  cases i with
  | const w sel => cases sel <;> simp [Instr.nOperand, Instr.nMask, Instr.rOperand, ConstSel.code]
  | _ => simp [Instr.nOperand, Instr.nMask, Instr.rOperand, Instr.rMask]

/-- Of an 8-bit `N` the row of CONST leaves the four selectors. -/
theorem exists_code_of_and_eq_zero {n : Nat} (hn : n < 256) (h : n &&& 0xFC = 0) :
    ∃ sel : ConstSel, n = sel.code := by
  have hdiv : n / 2 ^ 2 &&& 0x3F = 0 := by
    rw [show 0x3F = 0xFC / 2 ^ 2 from rfl, ← Nat.and_div_two_pow, h]
  rw [Nat.and_two_pow_sub_one_of_lt_two_pow (n := 6) (by omega)] at hdiv
  cases hsel : constSelOf n with
  | none => have := (constSelOf_eq_none_iff n).1 hsel; omega
  | some sel => exact ⟨sel, (constSelOf_eq_some_iff n sel).1 hsel⟩

/-- Counts that are zero where the row of `i` fixes them are those of a command with that row. -/
theorem exists_command_of_masks {n r : Nat} (hn : n < 256) (hr : r < 65536) (i : Instr) (hnm : n &&& i.nMask = 0)
    (hrm : r &&& i.rMask = 0) :
    ∃ j : Instr, j.width = i.width ∧ j.row = i.row ∧ n = j.nOperand ∧ r = j.rOperand := by
  have hN : n = n &&& 0xFF := (Nat.and_two_pow_sub_one_of_lt_two_pow (n := 8) hn).symm
  have hR : r = r &&& 0xFFFF := (Nat.and_two_pow_sub_one_of_lt_two_pow (n := 16) hr).symm
  cases i with
  | add w | sub w | rotl w | rotr w | tole w => exact ⟨_, rfl, rfl, hN.trans hnm, hR.trans hrm⟩
  | fromle w _ => exact ⟨.fromle w n, rfl, rfl, rfl, hR.trans hrm⟩
  | const w _ =>
    obtain ⟨sel, hsel⟩ := exists_code_of_and_eq_zero hn hnm
    exact ⟨.const w sel, rfl, rfl, hsel, hR.trans hrm⟩
  | expkey w _ _ => exact ⟨.expkey w n r, rfl, rfl, rfl, rfl⟩
  | enc w _ _ => exact ⟨.enc w n r, rfl, rfl, rfl, rfl⟩
  | dec w _ _ => exact ⟨.dec w n r, rfl, rfl, rfl, rfl⟩

/-- A legal word matches the row of its command. -/
theorem matches_row_of_decode {c : BitVec 32} {i : Instr} (h : decode c = .ok i) : c &&& i.row.mask = i.row.code := by
  obtain ⟨hop, -, hz, hn, hr⟩ := (decode_eq_ok_iff c i).1 h
  obtain ⟨hnm, hrm⟩ := operands_and_masks i
  exact (matches_row_iff c i).2 ⟨hop, hz, hn ▸ hnm, hr ▸ hrm⟩

/-- A word with a legal `WSEL` that matches a row of the map spells a command with that row. -/
theorem exists_decode_of_matches {c : BitVec 32} {row : OpcodeRow} {w : Width} (hw : wselField c = w.sel)
    (hrow : row ∈ opcodeMap) (h : c &&& row.mask = row.code) : ∃ i, decode c = .ok i ∧ row = i.row := by
  obtain ⟨i, rfl, rfl⟩ := exists_row_of_mem hrow w
  obtain ⟨hop, hz, hnm, hrm⟩ := (matches_row_iff c i).1 h
  obtain ⟨j, hwidth, hsame, hn, hr⟩ := exists_command_of_masks (nField_lt c) (rField_lt c) i hnm hrm
  obtain ⟨hcode, -⟩ := (matches_row_iff c j).1 (hsame ▸ h)
  exact ⟨j, (decode_eq_ok_iff c j).2 ⟨hcode, hwidth ▸ hw, hz, hn, hr⟩, hsame.symm⟩

theorem exists_sel_iff (n : Nat) : (∃ w : Width, n = w.sel) ↔ n ≤ 4 := by
  refine ⟨fun ⟨w, h⟩ => by cases w <;> simp [h, Width.sel], fun hn => ?_⟩
  cases hw : widthOfSel n with
  | none => exact absurd ((widthOfSel_eq_none_iff n).1 hw) (Nat.not_le_of_gt (Nat.lt_succ_of_le hn))
  | some w => exact ⟨w, (widthOfSel_eq_some_iff n w).1 hw⟩

/-- A word is legal exactly when it matches a row and its `WSEL` is 0 to 4 (30_encoding.md R76). -/
theorem exists_decode_iff (c : BitVec 32) :
    (∃ i, decode c = .ok i) ↔ (∃ row ∈ opcodeMap, c &&& row.mask = row.code) ∧ wselField c ≤ 4 := by
  constructor
  · rintro ⟨i, hi⟩
    obtain ⟨-, hw, -⟩ := (decode_eq_ok_iff c i).1 hi
    exact ⟨⟨i.row, row_mem_opcodeMap i, matches_row_of_decode hi⟩, (exists_sel_iff _).1 ⟨i.width, hw⟩⟩
  · rintro ⟨⟨row, hrow, hmatch⟩, hw⟩
    obtain ⟨w, hsel⟩ := (exists_sel_iff _).2 hw
    obtain ⟨i, hi, -⟩ := exists_decode_of_matches hsel hrow hmatch
    exact ⟨i, hi⟩

/-- Settles O12: a legal word matches its command's row; a match at a legal `WSEL` gives a command with that row,
and a word spells no second command. -/
theorem legalWordsMatchARowOfTheOpcodeMap : Obligations.LegalWordsMatchARowOfTheOpcodeMap := by
  refine fun c => ⟨by rw [toNat_wselBits, exists_decode_iff], fun i hi row hrow hmatch => ?_⟩
  obtain ⟨-, hw, -⟩ := (decode_eq_ok_iff c i).1 hi
  obtain ⟨j, hj, rfl⟩ := exists_decode_of_matches hw hrow hmatch
  rw [Except.ok.inj (hi.symm.trans hj)]
  rfl

end Sys2Proof
end

section
/-!
SUPPORT. The illegal words (30_encoding.md R77): those that match no row or have a reserved `WSEL`, and the same
words by the reason the decoder has for each.
-/

namespace Sys2Proof

theorem exists_bareCommand_error_iff (c : BitVec 32) (i : Instr) :
    (∃ e, bareCommand c i = .error e) ↔ nField c ≠ 0 ∨ rField c ≠ 0 := by
  unfold bareCommand
  split_ifs <;> simp_all

/-- The reasons for which an operation is rejected, by its code (30_encoding.md R77). -/
theorem exists_decodeOp_error_iff (c : BitVec 32) (w : Width) :
    (∃ e, decodeOp c w = .error e) ↔
      opField c = 0x0 ∨ 0xB ≤ opField c ∨ (opField c ∈ [0x1, 0x2, 0x3, 0x4, 0x5] ∧ nField c ≠ 0) ∨
      (opField c = 0x7 ∧ 4 ≤ nField c) ∨ (opField c ∉ [0x8, 0x9, 0xA] ∧ rField c ≠ 0) := by
  unfold decodeOp
  split
  case h_1 hop | h_2 hop | h_3 hop | h_4 hop | h_5 hop => simp [hop, exists_bareCommand_error_iff]
  case h_6 hop => by_cases hr : rField c = 0 <;> simp [hop, hr]
  case h_7 hop =>
    rw [← constSelOf_eq_none_iff]
    by_cases hr : rField c = 0
    · cases constSelOf (nField c) <;> simp [hop, hr]
    · simp [hop, hr]
  case h_8 hop | h_9 hop | h_10 hop => simp [hop]
  case h_11 =>
    have hreserved : opField c = 0x0 ∨ 0xB ≤ opField c := by
      simp only [imp_false] at *
      omega
    exact iff_of_true ⟨_, rfl⟩ (or_assoc.1 (.inl hreserved))

/-- The reasons for which a word is rejected (30_encoding.md R77). -/
theorem exists_decode_error_iff (c : BitVec 32) :
    (∃ e, decode c = .error e) ↔ z7Field c ≠ 0 ∨ 5 ≤ wselField c ∨
      opField c = 0x0 ∨ 0xB ≤ opField c ∨ (opField c ∈ [0x1, 0x2, 0x3, 0x4, 0x5] ∧ nField c ≠ 0) ∨
      (opField c = 0x7 ∧ 4 ≤ nField c) ∨ (opField c ∉ [0x8, 0x9, 0xA] ∧ rField c ≠ 0) := by
  by_cases hz : z7Field c = 0
  · rw [← widthOfSel_eq_none_iff]
    cases hw : widthOfSel (wselField c) with
    | none => simp [decode, hz, hw]
    | some w => simp [decode, hz, hw, exists_decodeOp_error_iff]
  · simp [decode, hz]

/-- A word is illegal exactly when it matches no row or its `WSEL` is reserved. -/
theorem exists_decode_error_iff_no_row (c : BitVec 32) :
    (∃ e, decode c = .error e) ↔
      (∀ row ∈ opcodeMap, c &&& row.mask ≠ row.code) ∨ wselField c ∈ [5, 6, 7] := by
  have hw : wselField c < 8 := toNat_wselBits c ▸ (c.extractLsb' 4 3).isLt
  have hreserved : ¬ wselField c ≤ 4 ↔ wselField c ∈ [5, 6, 7] := by
    simp only [List.mem_cons, List.not_mem_nil, or_false]
    omega
  rw [exists_error_iff_not_ok, exists_decode_iff, not_and_or, hreserved]
  simp

namespace Machine

/-- Settles O13: the negation of the legal words of R76; the branches of the decoder, one for each listed reason;
and the run of an illegal word, which is the error response at once. -/
theorem illegalWordsAreTheListedOnesAndComputeNothing :
    Obligations.IllegalWordsAreTheListedOnesAndComputeNothing := by
  refine ⟨fun c => ?_, fun c => ?_, fun s e hcheck hagenda hdec => ?_⟩
  · rw [toNat_wselBits, exists_decode_error_iff_no_row]
  · simp only [toNat_wselBits, toNat_opBits, toNat_nBits, toNat_rBits, getLsbD_seven_iff, ne_eq, ← BitVec.toNat_inj]
    exact exists_decode_error_iff c
  · exact (step_atCheck hcheck hagenda).trans (runCommand_of_error hdec)

end Machine

end Sys2Proof
end

section
/-!
SUPPORT. The checks in their fixed order, the operands before the round count (30_encoding.md R85), and the status
they decide.
-/

namespace Sys2Proof.Machine

theorem checkPorts_eq_ite (w : Width) (ports : List Carrier) :
    checkPorts w ports = if ∀ x ∈ ports, IsWord w x then none else some .conversionError := by
  simp only [checkPorts, List.all_eq_true, fitsWord_iff]

/-- What CHECK answers: ConversionError when the operands do not fit, else what the round count decides
(60_exceptions.md R185). -/
theorem checkOf_eq (i : Instr) (rq : Request) :
    checkOf i rq = if OperandsFit i rq then checkRounds i.rOperand else some .conversionError := by
  have hzero : checkRounds 0 = none := rfl
  cases i with
  | enc w n r | dec w n r =>
    by_cases hports : IsWord w rq.X0 ∧ IsWord w rq.X1 <;>
      simp [checkOf, checkBlock, checkPair, checkPorts_eq_ite, OperandsFit, Instr.readsX0, Instr.readsX1,
        Instr.width, Instr.opcode, Instr.rOperand, hports]
  | _ =>
    simp [checkOf, checkPair, checkSingle, checkString, checkPorts_eq_ite, OperandsFit, Instr.readsX0, Instr.readsX1,
      Instr.width, Instr.opcode, Instr.nOperand, Instr.rOperand, hzero]

theorem checkRounds_of_gt {r : Nat} (h : 255 < r) : checkRounds r = some .badLength :=
  if_neg (Nat.not_le_of_gt h)

/-- The work of a command leaves a response with STATUS OK. -/
theorem commandWork_status (i : Instr) (s : State) : (commandWork i s).RSP.STATUS = .ok := by
  cases i <;> rfl

/-- A command whose checks pass completes with STATUS OK, from any contents of the memories. -/
theorem exec_status_ok {i : Instr} {s : State} (h : checkOf i s.RQ = none) :
    ∃ rsp, exec i s = .next (s.afterResponse rsp) ∧ rsp.STATUS = .ok := by
  rw [exec_eq_command, h]
  exact ⟨_, command_ok (sameHost_commandWork i (passCheck s)), commandWork_status i (passCheck s)⟩

/-- What a command answers, by the first check that fails (30_encoding.md R85, 60_exceptions.md R185). -/
theorem exec_by_first_failing_check (i : Instr) (s : State) :
    ∃ rsp, exec i s = .next (s.afterResponse rsp) ∧
      (¬ OperandsFit i s.RQ → rsp = Response.error .conversionError) ∧
      (OperandsFit i s.RQ → 255 < i.rOperand → rsp = Response.error .badLength) ∧
      (OperandsFit i s.RQ → i.rOperand ≤ 255 → rsp.STATUS = .ok) := by
  have hcheck := checkOf_eq i s.RQ
  by_cases hfit : OperandsFit i s.RQ
  · rw [if_pos hfit] at hcheck
    rcases Nat.lt_or_ge 255 i.rOperand with hgt | hle
    · rw [checkRounds_of_gt hgt] at hcheck
      exact ⟨_, exec_of_checkOf_some hcheck, fun h => absurd hfit h, fun _ _ => rfl, fun _ h => by omega⟩
    · rw [(checkRounds_eq_none_iff _).2 hle] at hcheck
      obtain ⟨rsp, hexec, hok⟩ := exec_status_ok hcheck
      exact ⟨rsp, hexec, fun h => absurd hfit h, fun _ h => by omega, fun _ _ => hok⟩
  · rw [if_neg hfit] at hcheck
    exact ⟨_, exec_of_checkOf_some hcheck, fun _ => rfl, fun h => absurd h hfit, fun h => absurd h hfit⟩

/-- Settles O15: the step at CHECK is the run of the latched word; an illegal one is rejected before any other
check, and a command answers by its first failing check. -/
theorem theFirstFailingCheckDecidesTheStatus : Obligations.TheFirstFailingCheckDecidesTheStatus := by
  intro s hcheck hagenda
  rw [step_atCheck hcheck hagenda]
  cases hdec : decode s.RQ.CMD with
  | error e => exact ⟨_, runCommand_of_error hdec, fun _ _ => rfl, nofun⟩
  | ok i =>
    obtain ⟨rsp, hexec, hstatus⟩ := exec_by_first_failing_check i s
    refine ⟨rsp, (runCommand_of_ok hdec).trans hexec, nofun, fun j hj => ?_⟩
    cases hj
    exact hstatus

end Sys2Proof.Machine
end

section
/-!
SUPPORT. What a command reads (30_encoding.md R80): requests that agree on it have the same checks and the same
result.
-/

namespace Sys2Proof.Machine

/-- Two requests agree on the ports and bytes that the command reads (30_encoding.md Table R80-a). -/
structure AgreeOnReads (i : Instr) (p q : Request) : Prop where
  x0 : i.readsX0 = true → p.X0 = q.X0
  x1 : i.readsX1 = true → p.X1 = q.X1
  buf : i.readsBuf = true → ∀ h < i.nOperand, Memory.read p.BUF h = Memory.read q.BUF h

theorem fromLeBytes_congr (w : Width) {a b : Memory 8} (h : ∀ k < w.bytes, Memory.read a k = Memory.read b k) :
    fromLeBytes w a = fromLeBytes w b :=
  congrArg (BitVec.ofNat 128) (List.foldl_ext _ _ _ fun y k hk => by rw [h k (List.mem_range.1 hk)])

/-- The reference's subkeys depend on the key bytes alone. -/
theorem subkeys_congr (w : Width) {n : Nat} (r : Nat) {a b : Memory 8}
    (h : ∀ k < n, Memory.read a k = Memory.read b k) : Reference.subkeys w n r a = Reference.subkeys w n r b := by
  have hsum : ∀ q, Reference.packedSum w n a q = Reference.packedSum w n b q := fun q =>
    congrArg List.sum (List.map_congr_left fun k hk => by
      rw [h k (List.mem_range.1 (List.mem_of_mem_filter hk))])
  simp only [Reference.subkeys, Reference.packedKey, hsum]

section
variable {i : Instr} {p q : Request} (h : AgreeOnReads i p q)
include h

theorem operandsFit_congr : OperandsFit i p ↔ OperandsFit i q := by
  refine and_congr (imp_congr_right fun h0 => ?_) (and_congr_left' (imp_congr_right fun h1 => ?_))
  · rw [h.x0 h0]
  · rw [h.x1 h1]

theorem checkOf_congr : checkOf i p = checkOf i q := by
  simp only [checkOf_eq, operandsFit_congr h]

/-- The result of a command that passes CHECK depends on what the command reads. -/
theorem result_congr (hcheck : checkOf i p = none) : Reference.result i p = Reference.result i q := by
  obtain ⟨h0, h1, hbuf⟩ := h
  cases i with
  | add w | sub w | rotl w | rotr w => simp only [Reference.result, h0 rfl, h1 rfl]
  | tole w => simp only [Reference.result, h0 rfl]
  | fromle w n =>
    obtain rfl : n = w.bytes := by simpa [checkOf, checkString] using hcheck
    exact congrArg Response.word (fromLeBytes_congr w (hbuf rfl))
  | const w sel => rfl
  | expkey w n r => exact congrArg Response.table (subkeys_congr w r (hbuf rfl))
  | enc w n r | dec w n r => simp only [Reference.result, h0 rfl, h1 rfl, subkeys_congr (n := n) w r (hbuf rfl)]

end

/-- Settles O46: both states answer the same failing check or the same result of the reference, since the checks and
the result depend on what the command reads. -/
theorem theResponseDependsOnlyOnWhatTheCommandReads : Obligations.TheResponseDependsOnlyOnWhatTheCommandReads := by
  intro i s t hi hs ht h0 h1 hbuf
  have hagree : AgreeOnReads i s.RQ t.RQ := ⟨h0, h1, hbuf⟩
  have hsame : checkOf i t.RQ = checkOf i s.RQ := (checkOf_congr hagree).symm
  cases hcheck : checkOf i s.RQ with
  | some e => exact ⟨_, exec_of_checkOf_some hcheck, exec_of_checkOf_some (hsame.trans hcheck)⟩
  | none =>
    refine ⟨_, exec_of_checkOf_none hi hs hcheck, ?_⟩
    rw [result_congr hagree hcheck]
    exact exec_of_checkOf_none hi ht (hsame.trans hcheck)

end Sys2Proof.Machine
end

section
/-!
SUPPORT. ADDSUB: the words that spell ADD and SUB, the port check of a command that reads both ports, and what the
two commands answer (40_word_arith.md R100, R101).
-/

namespace Sys2Proof

/-- The fields of a command's word are the command's own, for every command. -/
theorem fields_encode : ∀ i : Instr, Laws.EncodedFields.Statement i
  | .add w => Laws.EncodedFields.add w
  | .sub w => Laws.EncodedFields.sub w
  | .rotl w => Laws.EncodedFields.rotl w
  | .rotr w => Laws.EncodedFields.rotr w
  | .tole w => Laws.EncodedFields.tole w
  | .fromle w n => Laws.EncodedFields.fromle w n
  | .const w sel => Laws.EncodedFields.const w sel
  | .expkey w n r => Laws.EncodedFields.expkey w n r
  | .enc w n r => Laws.EncodedFields.enc w n r
  | .dec w n r => Laws.EncodedFields.dec w n r

/-- A well-formed command is spelled by its encoding and by no other word. -/
theorem decode_eq_ok_iff_eq_encode (c : BitVec 32) {i : Instr} (hi : i.wf = true) :
    decode c = .ok i ↔ c = encode i := by
  obtain ⟨ho, hw, hz, hn, hr⟩ := fields_encode i hi
  rw [decode_eq_ok_iff, eq_iff_fields, ho, hw, hz, hn, hr]

namespace Machine

theorem checkPair_of_not_words {w : Width} {rq : Request} (h : ¬ (IsWord w rq.X0 ∧ IsWord w rq.X1)) :
    checkPair w rq = some .conversionError := by
  simpa [checkPair, checkPorts_eq_ite] using h

/-- A command whose checks pass answers what its work leaves in `RSP`, from any contents of the memories. -/
theorem exec_of_pass {i : Instr} {s : State} (h : checkOf i s.RQ = none) :
    exec i s = .next (s.afterResponse (commandWork i (passCheck s)).RSP) := by
  rw [exec_eq_command, h, command_ok (sameHost_commandWork i (passCheck s))]

/-- ADD on two Words. -/
theorem exec_add_of_words {w : Width} {s : State} (h0 : IsWord w s.RQ.X0) (h1 : IsWord w s.RQ.X1) :
    exec (.add w) s = .next (s.afterResponse (Response.word (wadd w s.RQ.X0 s.RQ.X1))) := by
  have hcheck : checkOf (.add w) s.RQ = none := (checkPair_eq_none_iff w s.RQ).2 ⟨h0, h1⟩
  simp [exec_of_pass hcheck, commandWork, addPhase, portWord_eq h0, portWord_eq h1]

/-- SUB on two Words. -/
theorem exec_sub_of_words {w : Width} {s : State} (h0 : IsWord w s.RQ.X0) (h1 : IsWord w s.RQ.X1) :
    exec (.sub w) s = .next (s.afterResponse (Response.word (wsub w s.RQ.X0 s.RQ.X1))) := by
  have hcheck : checkOf (.sub w) s.RQ = none := (checkPair_eq_none_iff w s.RQ).2 ⟨h0, h1⟩
  simp [exec_of_pass hcheck, commandWork, subPhase, portWord_eq h0, portWord_eq h1]

/-- A difference from a Word, with the borrow as a case (40_word_arith.md R101). -/
theorem wsub_eq_ite {w : Width} {a : Carrier} (ha : IsWord w a) (b : Carrier) :
    wsub w a b = BitVec.ofNat 128
      (if b.toNat ≤ a.toNat then a.toNat - b.toNat else a.toNat + 2 ^ w.bits - b.toNat) := by
  refine congrArg (BitVec.ofNat 128) ?_
  split
  · next hle =>
    have hshift : a.toNat + 2 ^ w.bits - b.toNat = a.toNat - b.toNat + 2 ^ w.bits := Nat.sub_add_comm hle
    rw [hshift, Nat.add_mod_right, Nat.mod_eq_of_lt (Nat.lt_of_le_of_lt (Nat.sub_le _ _) ha)]
  · exact Nat.mod_eq_of_lt (by omega)

/-- Settles O23: the word is the encoding of ADD; on two Words the answer is `wadd`, which is the sum narrowed; and
the port check answers ConversionError otherwise. -/
theorem addAnswersTheSumModuloTwoToTheWidth : Obligations.AddAnswersTheSumModuloTwoToTheWidth :=
  fun w _ => ⟨fun c => decode_eq_ok_iff_eq_encode c (i := .add w) rfl, exec_add_of_words,
    fun h => exec_of_checkOf_some (i := .add w) (checkPair_of_not_words h)⟩

/-- Settles O24: the word is the encoding of SUB; on two Words the answer is `wsub`, read with the borrow as a case;
and the port check answers ConversionError otherwise. -/
theorem subAnswersTheDifferenceModuloTwoToTheWidth : Obligations.SubAnswersTheDifferenceModuloTwoToTheWidth := by
  refine fun w s => ⟨fun c => decode_eq_ok_iff_eq_encode c (i := .sub w) rfl, fun h0 h1 => ?_,
    fun h => exec_of_checkOf_some (i := .sub w) (checkPair_of_not_words h)⟩
  rw [← wsub_eq_ite h0 s.RQ.X1]
  exact exec_sub_of_words h0 h1

end Machine

end Sys2Proof
end

section
/-!
SUPPORT. BYTELANE: the number that a string of bytes stands for, least significant byte first, and what TOLE and
FROMLE answer (42_word_bytes_const.md R120, R121).
-/

namespace Sys2Proof.Machine

/-! ### Byte sums -/

/-- A sum of `u` bytes, byte `k` at the weight `256^k`, fits in `u` bytes. -/
theorem sum_bytes_lt (b : Nat → Byte) (u : Nat) : ∑ k ∈ Finset.range u, (b k).toNat * 256 ^ k < 256 ^ u := by
  induction u with
  | zero => simp
  | succ u ih =>
    have htop : (b u).toNat * 256 ^ u ≤ 255 * 256 ^ u := Nat.mul_le_mul_right _ (Nat.le_of_lt_succ (b u).isLt)
    rw [Finset.sum_range_succ, Nat.pow_succ]
    omega

/-- Each byte stands at its own lane of the sum: the bytes below it do not reach it, and those above it are whole
multiples of the next lane. -/
theorem sum_bytes_lane (b : Nat → Byte) {u k : Nat} (hk : k < u) :
    (∑ h ∈ Finset.range u, (b h).toNat * 256 ^ h) / 256 ^ k % 256 = (b k).toNat := by
  induction u with
  | zero => exact absurd hk (Nat.not_lt_zero k)
  | succ u ih =>
    rw [Finset.sum_range_succ]
    rcases Nat.lt_succ_iff_lt_or_eq.1 hk with hlt | rfl
    · have habove : 256 ^ u = 256 ^ (u - k - 1) * 256 * 256 ^ k := by
        rw [← Nat.pow_succ, ← Nat.pow_add]
        congr 1
        omega
      rw [habove, ← Nat.mul_assoc, ← Nat.mul_assoc, Nat.add_mul_div_right _ _ (Nat.pow_pos (by decide)),
        Nat.add_mul_mod_self_right, ih hlt]
    · rw [Nat.add_mul_div_right _ _ (Nat.pow_pos (by decide)), Nat.div_eq_of_lt (sum_bytes_lt b k), Nat.zero_add]
      exact Nat.mod_eq_of_lt (b k).isLt

/-- The loop of FROMLE adds up the sum (42_word_bytes_const.md Pseudocode R121). -/
theorem foldl_bytes_eq_sum (b : Nat → Byte) (u : Nat) :
    (List.range u).foldl (fun y k => y + (b k).toNat * 256 ^ k) 0 = ∑ k ∈ Finset.range u, (b k).toNat * 256 ^ k := by
  induction u with
  | zero => rfl
  | succ u ih => simp [List.range_succ, Finset.sum_range_succ, ih]

/-! ### The Word of a byte string -/

/-- A sum of `w/8` bytes is below the modulus of the width. -/
theorem sum_bytes_lt_modulus (w : Width) (b : Nat → Byte) :
    ∑ k ∈ Finset.range w.bytes, (b k).toNat * 256 ^ k < 2 ^ w.bits :=
  modulus_eq_pow_bytes w ▸ sum_bytes_lt b w.bytes

/-- The carrier holds the whole sum. -/
theorem toNat_fromLeBytes (w : Width) (buf : Memory 8) :
    (fromLeBytes w buf).toNat = ∑ k ∈ Finset.range w.bytes, (Memory.read buf k).toNat * 256 ^ k := by
  rw [fromLeBytes, foldl_bytes_eq_sum, BitVec.toNat_ofNat]
  exact Nat.mod_eq_of_lt (Nat.lt_of_lt_of_le (sum_bytes_lt_modulus w _) w.modulus_le)

theorem isWord_fromLeBytes (w : Width) (buf : Memory 8) : IsWord w (fromLeBytes w buf) :=
  (toNat_fromLeBytes w buf).trans_lt (sum_bytes_lt_modulus w _)

/-- Byte lane `k` of the Word is byte `k` of the string. -/
theorem extractLsb'_fromLeBytes (w : Width) (buf : Memory 8) {k : Nat} (hk : k < w.bytes) :
    (fromLeBytes w buf).extractLsb' (8 * k) 8 = Memory.read buf k := by
  apply BitVec.eq_of_toNat_eq
  rw [BitVec.extractLsb'_toNat, Nat.shiftRight_eq_div_pow, Nat.pow_mul, toNat_fromLeBytes]
  exact sum_bytes_lane (Memory.read buf) hk

/-! ### The byte string of a Word -/

/-- Byte `k` of the string is byte lane `k` of the Word. -/
theorem toLeBytes_eq (w : Width) (x : Carrier) :
    toLeBytes w x = (List.range w.bytes).map fun k => x.extractLsb' (8 * k) 8 :=
  List.map_congr_left fun k _ => ofNat_slice_byte x k

/-! ### The commands -/

/-- FROMLE is spelled by one word for each count that fits the field, and by none for the others. -/
theorem decode_eq_fromle_iff (c : BitVec 32) (w : Width) (n : Nat) :
    decode c = .ok (.fromle w n) ↔ n < 256 ∧ c = encode (.fromle w n) := by
  by_cases hn : n < 256
  · have hwf : (Instr.fromle w n).wf = true := decide_eq_true hn
    rw [decode_eq_ok_iff_eq_encode c hwf, and_iff_right hn]
  · exact iff_of_false (fun h => hn (of_decide_eq_true (wf_of_decode h))) fun h => hn h.1

/-- TOLE of a Word. -/
theorem exec_tole_of_word {w : Width} {s : State} (h : IsWord w s.RQ.X0) :
    exec (.tole w) s = .next (s.afterResponse (Response.bytes (toLeBytes w s.RQ.X0))) := by
  have hcheck : checkOf (.tole w) s.RQ = none := (checkSingle_eq_none_iff w s.RQ).2 h
  simp [exec_of_pass hcheck, commandWork, tolePhase, portWord_eq h]

theorem checkSingle_of_not_word {w : Width} {rq : Request} (h : ¬ IsWord w rq.X0) :
    checkSingle w rq = some .conversionError := by
  simpa [checkSingle, checkPorts_eq_ite] using h

/-- FROMLE of a string of the length of a Word. -/
theorem exec_fromle_of_length {w : Width} {n : Nat} (s : State) (h : n = w.bytes) :
    exec (.fromle w n) s = .next (s.afterResponse (Response.word (fromLeBytes w s.RQ.BUF))) := by
  have hcheck : checkOf (.fromle w n) s.RQ = none := if_pos h
  exact exec_of_pass hcheck

theorem checkString_of_ne {w : Width} {n : Nat} (h : n ≠ w.bytes) : checkString w n = some .conversionError :=
  if_neg h

/-- Settles O31: the word is the encoding of FROMLE; on a string of the length of a Word the answer is
`fromLeBytes`, whose value is the sum and whose lanes are the bytes; and the length check answers ConversionError
otherwise. -/
theorem fromleAnswersTheWordOfTheBytes : Obligations.FromleAnswersTheWordOfTheBytes :=
  fun w n s => ⟨fun c => decode_eq_fromle_iff c w n,
    fun h => ⟨fromLeBytes w s.RQ.BUF, exec_fromle_of_length s h, isWord_fromLeBytes w _, toNat_fromLeBytes w _,
      fun _ hk => extractLsb'_fromLeBytes w _ hk⟩,
    fun h => exec_of_checkOf_some (i := .fromle w n) (checkString_of_ne h)⟩

/-- Settles O30: the word is the encoding of TOLE; on a Word the answer is `toLeBytes`, whose bytes are the lanes of
the Word; and the port check answers ConversionError otherwise. -/
theorem toleAnswersTheBytesLeastSignificantFirst : Obligations.ToleAnswersTheBytesLeastSignificantFirst := by
  refine fun w s => ⟨fun c => decode_eq_ok_iff_eq_encode c (i := .tole w) rfl, fun h => ?_,
    fun h => exec_of_checkOf_some (i := .tole w) (checkSingle_of_not_word h)⟩
  rw [← toLeBytes_eq]
  exact exec_tole_of_word h

end Sys2Proof.Machine
end

section
/-!
SUPPORT. KEYSCHED: what INIT leaves unchanged, and the two statements of the key schedule about the table and about
what EXPKEY depends on (43_key_schedule.md R143, R147).
-/

namespace Sys2Proof.Machine

/-! ### The cells that INIT leaves unchanged -/

/-- The index of INIT stays below the table size: it goes up only while the next value is still below it. -/
theorem initIter_i_lt (w : Width) {r : Nat} {s : State} (h : s.i.val < tableSize r) :
    (initIter w r s).i.val < tableSize r := by
  simp only [initIter, State.setI_i]
  split
  · next hnext => exact Nat.lt_of_le_of_lt (Nat.mod_le _ _) hnext
  · exact h

/-- An iteration of INIT writes the cell at its index and no other. -/
theorem read_initIter_other (w : Width) (r : Nat) {s : State} {a : Nat} (h : a ≠ s.i.val) :
    Memory.read (initIter w r s).S a = Memory.read s.S a :=
  Memory.read_write_other s.S h _

/-- No iteration of INIT writes past the table. -/
theorem read_initIter_iterate_of_le (w : Width) {r a : Nat} (ha : tableSize r ≤ a) (m : Nat) {s : State}
    (h : s.i.val < tableSize r) : Memory.read ((initIter w r)^[m] s).S a = Memory.read s.S a := by
  induction m generalizing s with
  | zero => rfl
  | succ m ih =>
    rw [Function.iterate_succ_apply, ih (initIter_i_lt w h),
      read_initIter_other w r (Nat.ne_of_gt (Nat.lt_of_lt_of_le h ha))]

/-- INIT leaves the cells past the table as they were. -/
theorem read_initPhase_of_le (w : Width) {r a : Nat} (ha : tableSize r ≤ a) (s : State) :
    Memory.read (initPhase w r s).S a = Memory.read s.S a := by
  have hsize : 2 ≤ tableSize r := tableSize_ge r
  calc Memory.read (initPhase w r s).S a
    _ = Memory.read (enterInit w s).S a := read_initIter_iterate_of_le w ha _ hsize
    _ = Memory.read s.S a := Memory.read_write_other s.S (by omega) _

/-- But for the table and its index, INIT only sets the phase: the rest is what its entry and every one of its
iterations keep. -/
theorem initPhase_setS_setI (w : Width) (r : Nat) (s : State) (tbl : Memory 128) (idx : Fin 512) :
    ((initPhase w r s).setS tbl).setI idx = ((s.setS tbl).setI idx).setPH .init :=
  iterate_keeps (initIter w r) (fun t => (t.setS tbl).setI idx) (fun _ => rfl) (tableSize r - 1) (enterInit w s)

/-- INIT writes the table, its index and the phase. -/
theorem initPhase_frame (w : Width) (r : Nat) (s : State) :
    initPhase w r s = { s with S := (initPhase w r s).S, i := (initPhase w r s).i, PH := .init } :=
  initPhase_setS_setI w r s (initPhase w r s).S (initPhase w r s).i

/-! ### The cells that INIT fills -/

/-- INIT fills each cell of the table by its closed form. -/
theorem read_initPhase (w : Width) {r a : Nat} {s : State} (hr : r ≤ 255) (hS : Memory.wf Config.tableDepth s.S)
    (ha : a < tableSize r) : Memory.read (initPhase w r s).S a = magicWord w a :=
  (initTo_initPhase w hr hS).cells a (Nat.le_sub_one_of_lt ha)

/-- Settles O35: each cell of the table is the closed form, whose recurrence is the addition of `Q_w`; the cells
past the table and the rest of the state are INIT's frame. -/
theorem initFillsTheTableFromTheMagicConstants : Obligations.InitFillsTheTableFromTheMagicConstants := by
  rintro w r s hr ⟨-, hS⟩
  have hcell : ∀ a < tableSize r, Memory.read (initPhase w r s).S a = magicWord w a :=
    fun a ha => read_initPhase w hr hS ha
  refine ⟨?_, fun a ha hpos => ?_, fun a ha => ?_, fun a ha => read_initPhase_of_le w ha s, initPhase_frame w r s⟩
  · rw [hcell 0 (Nat.lt_of_lt_of_le Nat.two_pos (tableSize_ge r)), magicWord_zero]
  · obtain ⟨m, rfl⟩ := Nat.exists_eq_add_of_le' hpos
    rw [Nat.add_sub_cancel, hcell (m + 1) ha, hcell m (Nat.lt_of_succ_lt ha), magicWord_succ, wadd, toNat_narrow]
  · rw [hcell a ha, magicWord, toNat_narrow]

/-! ### What EXPKEY depends on -/

/-- Settles O38: the one check of EXPKEY is on the round count, so both commands fail it alike; when it passes the
command is well formed, and of the request it reads the key bytes alone. -/
theorem expkeyDependsOnTheKeyTheRoundsAndTheWidthOnly :
    Obligations.ExpkeyDependsOnTheKeyTheRoundsAndTheWidthOnly := by
  intro w n r s t hn hs ht hkey
  cases hcheck : checkRounds r with
  | some e => exact ⟨_, exec_of_checkOf_some hcheck, exec_of_checkOf_some hcheck⟩
  | none =>
    have hr : r ≤ 255 := (checkRounds_eq_none_iff r).1 hcheck
    have hwf : (Instr.expkey w n r).wf = true := by
      simp only [Instr.wf, fitsN, fitsR, Bool.and_eq_true, decide_eq_true_eq]
      omega
    exact theResponseDependsOnlyOnWhatTheCommandReads (.expkey w n r) s t hwf hs ht nofun nofun fun _ => hkey

end Sys2Proof.Machine
end

section
/-!
SUPPORT. BLK: the subkey table has `T` Words, what EXPKEY, ENC and DEC answer on operands that fit, and the block
transform with no rounds (44_block_transform.md R163).
-/

namespace Sys2Proof.Machine

open Reference (encryptBlock decryptBlock subkeys)

/-- Counts within the engine's limits fit the fields of the command word. -/
theorem fitsN_and_fitsR {n r : Nat} (hn : n ≤ 255) (hr : r ≤ 255) : (fitsN n && fitsR r) = true := by
  simp only [fitsN, fitsR, Bool.and_eq_true, decide_eq_true_eq]
  omega

/-- The expanded key has `T` Words (43_key_schedule.md R145). -/
theorem length_subkeys (w : Width) {n r : Nat} {s : State} (hn : n ≤ 255) (hr : r ≤ 255) (hs : s.MemoriesInForm) :
    (subkeys w n r s.RQ.BUF).length = tableSize r := by
  rw [← toList_keySchedule w hn hr hs, Memory.length_toList]

section
variable {w : Width} {n r : Nat} {s : State} (hn : n ≤ 255) (hr : r ≤ 255) (hs : s.MemoriesInForm)
include hn hr hs

/-- EXPKEY within the engine's limits answers the expanded key. -/
theorem exec_expkey_of_rounds :
    exec (.expkey w n r) s = .next (s.afterResponse (Response.table (subkeys w n r s.RQ.BUF))) :=
  exec_of_checkOf_none (i := .expkey w n r) (fitsN_and_fitsR hn hr) hs ((checkRounds_eq_none_iff r).2 hr)

/-- ENC on two Words answers the encrypted block. -/
theorem exec_enc_of_words (h0 : IsWord w s.RQ.X0) (h1 : IsWord w s.RQ.X1) :
    exec (.enc w n r) s = .next (s.afterResponse (Response.block
      (encryptBlock w (subkeys w n r s.RQ.BUF) r s.RQ.X0 s.RQ.X1).1
      (encryptBlock w (subkeys w n r s.RQ.BUF) r s.RQ.X0 s.RQ.X1).2)) :=
  exec_of_checkOf_none (i := .enc w n r) (fitsN_and_fitsR hn hr) hs
    ((checkBlock_eq_none_iff w r s.RQ).2 ⟨⟨h0, h1⟩, hr⟩)

/-- DEC on two Words answers the decrypted block. -/
theorem exec_dec_of_words (h0 : IsWord w s.RQ.X0) (h1 : IsWord w s.RQ.X1) :
    exec (.dec w n r) s = .next (s.afterResponse (Response.block
      (decryptBlock w (subkeys w n r s.RQ.BUF) r s.RQ.X0 s.RQ.X1).1
      (decryptBlock w (subkeys w n r s.RQ.BUF) r s.RQ.X0 s.RQ.X1).2)) :=
  exec_of_checkOf_none (i := .dec w n r) (fitsN_and_fitsR hn hr) hs
    ((checkBlock_eq_none_iff w r s.RQ).2 ⟨⟨h0, h1⟩, hr⟩)

end

/-- Encryption with no rounds adds the two subkeys to the block. -/
theorem encryptBlock_zero_rounds (w : Width) (s0 s1 a b : Carrier) :
    encryptBlock w [s0, s1] 0 a b = (wadd w a s0, wadd w b s1) := rfl

/-- Decryption with no rounds subtracts the two subkeys from the block. -/
theorem decryptBlock_zero_rounds (w : Width) (s0 s1 a b : Carrier) :
    decryptBlock w [s0, s1] 0 a b = (wsub w a s0, wsub w b s1) := rfl

/-- Settles O43: with no rounds the expanded key has two Words, and with them as the table the block transform is one
addition or one subtraction for each half of the block. -/
theorem zeroRoundsOnlyAddOrSubtractTheTwoSubkeys : Obligations.ZeroRoundsOnlyAddOrSubtractTheTwoSubkeys := by
  intro w n s hn hs h0 h1
  have hr : 0 ≤ 255 := Nat.zero_le 255
  have hexpkey := exec_expkey_of_rounds (w := w) hn hr hs
  have henc := exec_enc_of_words hn hr hs h0 h1
  have hdec := exec_dec_of_words hn hr hs h0 h1
  obtain ⟨s0, s1, htable⟩ := List.length_eq_two.1 (length_subkeys w hn hr hs)
  rw [htable] at hexpkey henc hdec
  rw [encryptBlock_zero_rounds] at henc
  rw [decryptBlock_zero_rounds] at hdec
  exact ⟨rfl, rfl, s0, s1, hexpkey, henc, hdec⟩

end Sys2Proof.Machine
end

section
/-!
SUPPORT. The three outcomes of the checks (60_exceptions.md R181, R182, R197) and error entry, move by move
(60_exceptions.md R186).
-/

namespace Sys2Proof.Machine

/-! ### Which check a command fails -/

/-- A port that carries no Word has a non-zero bit at or above the width (60_exceptions.md R182). -/
theorem shiftRight_bits_ne_zero_iff (w : Width) (x : Carrier) : x >>> w.bits ≠ 0 ↔ ¬ IsWord w x := by
  rw [← fitsWord_iff, fitsWord, beq_iff_eq, BitVec.ofNat_eq_ofNat]

theorem checkRounds_eq_ite (r : Nat) : checkRounds r = if 255 < r then some .badLength else none := by
  split
  · next hgt => exact checkRounds_of_gt hgt
  · next hle => exact (checkRounds_eq_none_iff r).2 (Nat.le_of_not_gt hle)

theorem checkOf_eq_conversionError_iff (i : Instr) (rq : Request) :
    checkOf i rq = some .conversionError ↔ ¬ OperandsFit i rq := by
  rw [checkOf_eq, checkRounds_eq_ite]
  split_ifs with hfit
  · exact iff_of_false nofun (not_not_intro hfit)
  · exact iff_of_false nofun (not_not_intro hfit)
  · exact iff_of_true rfl hfit

theorem checkOf_eq_badLength_iff (i : Instr) (rq : Request) :
    checkOf i rq = some .badLength ↔ OperandsFit i rq ∧ 255 < i.rOperand := by
  rw [checkOf_eq, checkRounds_eq_ite]
  split_ifs with hfit hgt
  · exact iff_of_true rfl ⟨hfit, hgt⟩
  · exact iff_of_false nofun fun h => hgt h.2
  · exact iff_of_false nofun fun h => hfit h.1

theorem checkOf_eq_none_iff (i : Instr) (rq : Request) :
    checkOf i rq = none ↔ OperandsFit i rq ∧ i.rOperand ≤ 255 := by
  rw [checkOf_eq, ← checkRounds_eq_none_iff]
  split_ifs with hfit
  · exact (and_iff_right hfit).symm
  · exact iff_of_false nofun fun h => hfit h.1

/-- A failing check never answers OK (60_exceptions.md Table R180-a). -/
theorem ne_ok_of_checkOf_some {i : Instr} {rq : Request} {e : Status} (h : checkOf i rq = some e) : e ≠ .ok := by
  rintro rfl
  rw [checkOf_eq, checkRounds_eq_ite] at h
  split_ifs at h <;> cases h

/-- Every command completes, and an error is its status exactly when CHECK answers that error. -/
theorem exec_status_eq_iff (i : Instr) (s : State) {e : Status} (he : e ≠ .ok) :
    ∃ rsp, exec i s = .next (s.afterResponse rsp) ∧ (rsp.STATUS = e ↔ checkOf i s.RQ = some e) := by
  cases hcheck : checkOf i s.RQ with
  | some e' => exact ⟨_, exec_of_checkOf_some hcheck, Option.some_inj.symm⟩
  | none =>
    obtain ⟨rsp, hexec, hok⟩ := exec_status_ok hcheck
    exact ⟨rsp, hexec, iff_of_false (hok ▸ he.symm) nofun⟩

/-! ### The commands that fail each check -/

/-- Operands that do not fit, command by command: both ports of ADD, SUB, ROTL, ROTR, ENC and DEC, the one of TOLE,
the length of FROMLE; CONST and EXPKEY read none (30_encoding.md Table R80-a). -/
theorem not_operandsFit_iff (i : Instr) (rq : Request) :
    ¬ OperandsFit i rq ↔
      (∃ w n, i = .fromle w n ∧ n ≠ w.bytes) ∨
      (∃ w, (i = .add w ∨ i = .sub w ∨ i = .rotl w ∨ i = .rotr w ∨ ∃ n r, i = .enc w n r ∨ i = .dec w n r) ∧
        (¬ IsWord w rq.X0 ∨ ¬ IsWord w rq.X1)) ∨
      ∃ w, i = .tole w ∧ ¬ IsWord w rq.X0 := by
  cases i with
  | add w | sub w | rotl w | rotr w | enc w n r | dec w n r =>
    simp [OperandsFit, Instr.readsX0, Instr.readsX1, Instr.width, Instr.opcode, imp_iff_not_or]
  | tole w => simp [OperandsFit, Instr.readsX0, Instr.readsX1, Instr.width, Instr.opcode]
  | fromle w n =>
    simp [OperandsFit, Instr.readsX0, Instr.readsX1, Instr.width, Instr.opcode, Instr.nOperand]
  | const w sel | expkey w n r => simp [OperandsFit, Instr.readsX0, Instr.readsX1, Instr.opcode]

/-- A round count above 255 with operands that fit: EXPKEY reads no port, ENC and DEC read both, and no other
command has a round count. -/
theorem operandsFit_and_tooManyRounds_iff (i : Instr) (rq : Request) :
    OperandsFit i rq ∧ 255 < i.rOperand ↔
      ∃ w n r, 255 < r ∧
        (i = .expkey w n r ∨ (i = .enc w n r ∨ i = .dec w n r) ∧ IsWord w rq.X0 ∧ IsWord w rq.X1) := by
  cases i with
  | expkey w n r => simp [OperandsFit, Instr.readsX0, Instr.readsX1, Instr.opcode, Instr.rOperand]
  | enc w n r | dec w n r =>
    simp [OperandsFit, Instr.readsX0, Instr.readsX1, Instr.width, Instr.opcode, Instr.rOperand, and_comm]
  | _ => simp [Instr.rOperand]

/-- A bound on the round counts of EXPKEY, ENC and DEC bounds every command's, the others having the count 0. -/
theorem rOperand_le_of_forall {i : Instr} {bound : Nat}
    (h : ∀ w n r, i = .expkey w n r ∨ i = .enc w n r ∨ i = .dec w n r → r ≤ bound) : i.rOperand ≤ bound := by
  cases i with
  | expkey w n r => exact h w n r (.inl rfl)
  | enc w n r => exact h w n r (.inr (.inl rfl))
  | dec w n r => exact h w n r (.inr (.inr rfl))
  | _ => exact Nat.zero_le bound

/-! ### Error entry, move by move -/

section
variable {s : State} {e : Status}

/-- CHECK of a rejected word is error entry with IllegalCommand. -/
theorem tick_check_of_error {x : Reject} (hph : s.PH = .check) (h : decode s.RQ.CMD = .error x) :
    tick s = .next (reject .illegalCommand s) := by
  simp only [tick, hph, h]

/-- CHECK of a command with a failing check is error entry with that check's status. -/
theorem tick_check_of_checkOf_some {i : Instr} (hph : s.PH = .check) (h : decode s.RQ.CMD = .ok i)
    (hcheck : checkOf i s.RQ = some e) : tick s = .next (reject e s) := by
  simp only [tick, hph, h, checkMove, hcheck]

/-- FINISH adds nothing to the response of an error. -/
theorem buildResponse_of_ne_ok (i : Instr) (h : s.RSP.STATUS ≠ .ok) : buildResponse i s = s := if_neg h

/-- FINISH after error entry completes the command with the status alone. -/
theorem tick_reject (s : State) (he : e ≠ .ok) :
    tick (reject e s) = .next (s.afterResponse (Response.error e)) := by
  have hcomplete : complete (reject e s) = s.afterResponse (Response.error e) := rfl
  cases hdec : decode s.RQ.CMD with
  | error x => simp only [tick, reject_PH, reject_RQ, hdec, hcomplete]
  | ok i => simp only [tick, reject_PH, reject_RQ, hdec, buildResponse_of_ne_ok (s := reject e s) i he, hcomplete]

end

/-! ### The statements -/

/-- Settles O16: the status is ConversionError exactly when the operands do not fit, which each command's ports and
byte count decide. -/
theorem conversionErrorIsRaisedInExactlyTwoSituations :
    Obligations.ConversionErrorIsRaisedInExactlyTwoSituations := by
  intro i s
  simp only [shiftRight_bits_ne_zero_iff]
  rw [← not_operandsFit_iff, ← checkOf_eq_conversionError_iff]
  exact exec_status_eq_iff i s (by decide)

/-- Settles O17: the table size is linear in the round count, and the status is BadLength exactly when the operands
fit and the round count is above 255. -/
theorem badLengthIsRaisedExactlyByTooManyRounds : Obligations.BadLengthIsRaisedExactlyByTooManyRounds := by
  refine ⟨fun r => ?_, fun i s => ?_⟩
  · unfold tableSize
    omega
  · rw [← operandsFit_and_tooManyRounds_iff, ← checkOf_eq_badLength_iff]
    exact exec_status_eq_iff i s (by decide)

/-- Settles O18: these hypotheses are what CHECK tests, and a command that passes CHECK completes with OK. -/
theorem noArithmeticConditionIsAnError : Obligations.NoArithmeticConditionIsAnError :=
  fun i s hfit hrounds => exec_status_ok ((checkOf_eq_none_iff i s.RQ).2 ⟨hfit, rOperand_le_of_forall hrounds⟩)

/-- Settles O19: in both cases CHECK is error entry, the FINISH move completes it, and the whole command answers the
same response. -/
theorem anErrorEndsTheCommandWithItsStatusAlone : Obligations.AnErrorEndsTheCommandWithItsStatusAlone := by
  intro s e hs hfail
  have hph : s.PH = .check := hs.2
  obtain ⟨⟨x, hdec⟩, rfl⟩ | ⟨i, hdec, hcheck⟩ := hfail
  · exact ⟨reject .illegalCommand s, tick_check_of_error hph hdec, rfl, tick_reject s (by decide),
      fun ha => (step_atCheck hs ha).trans (runCommand_of_error hdec)⟩
  · exact ⟨reject e s, tick_check_of_checkOf_some hph hdec hcheck, rfl, tick_reject s (ne_ok_of_checkOf_some hcheck),
      fun ha => (step_atCheck hs ha).trans ((runCommand_of_ok hdec).trans (exec_of_checkOf_some hcheck))⟩

end Sys2Proof.Machine
end

section
/-!
SUPPORT. The host's ports (70_reset_and_hazards.md R214): no move of the engine reads or writes them.
-/

namespace Sys2Proof.Machine

/-! ### Operations that leave the ports out of account -/

/-- An operation that neither reads nor writes the ports: driving them to `p` before it or after it is the same. -/
def IgnoresPorts (p : Request) (f : State → State) : Prop := ∀ s, f (s.setPorts p) = (f s).setPorts p

theorem IgnoresPorts.comp {p : Request} {f g : State → State} (hf : IgnoresPorts p f) (hg : IgnoresPorts p g) :
    IgnoresPorts p (f ∘ g) := fun s => (congrArg f (hg s)).trans (hf (g s))

theorem IgnoresPorts.iterate {p : Request} {f : State → State} (hf : IgnoresPorts p f) (count : Nat) :
    IgnoresPorts p f^[count] := Function.Commute.iterate_left (g := (State.setPorts · p)) hf count

/-- A choice whose condition does not read the ports, between two operations that ignore them. -/
theorem IgnoresPorts.ite {p : Request} {c : State → Prop} [DecidablePred c] {f g : State → State}
    (hc : ∀ s, c (s.setPorts p) ↔ c s) (hf : IgnoresPorts p f) (hg : IgnoresPorts p g) :
    IgnoresPorts p fun s => if c s then f s else g s := fun s => by
  by_cases h : c s
  · simpa only [if_pos h, if_pos ((hc s).2 h)] using hf s
  · simpa only [if_neg h, if_neg (mt (hc s).1 h)] using hg s

section
variable (p : Request) (w : Width) (n r : Nat)

theorem ignoresPorts_mixIter : IgnoresPorts p (mixIter w n r) := fun _ => rfl

/-- The key schedule: each phase is an entry and its iterations. -/
theorem ignoresPorts_keySchedule : IgnoresPorts p (keySchedule w n r) := by
  have hpack : IgnoresPorts p (packPhase w n) :=
    .comp (.iterate (f := packIter w) (fun _ => rfl) n) (g := enterPack w n) fun _ => rfl
  have hinit : IgnoresPorts p (initPhase w r) :=
    .comp (.iterate (f := initIter w r) (fun _ => rfl) _) (g := enterInit w) fun _ => rfl
  have hmix : IgnoresPorts p (mixPhase w n r) :=
    .comp ((ignoresPorts_mixIter p w n r).iterate _) (g := enterMix) fun _ => rfl
  exact hmix.comp (hinit.comp hpack)

theorem ignoresPorts_encRounds : IgnoresPorts p (encRounds w r) :=
  .iterate (f := encRound w r) (fun _ => rfl) r

theorem ignoresPorts_decRounds : IgnoresPorts p (decRounds w r) :=
  .iterate (f := decRound w) (fun _ => rfl) r

theorem ignoresPorts_packMove : IgnoresPorts p (packMove w n) :=
  .ite (fun _ => .rfl) (fun _ => rfl) (.ite (fun _ => .rfl) (fun _ => rfl) fun _ => rfl)

theorem ignoresPorts_initMove : IgnoresPorts p (initMove w r) := .ite (fun _ => .rfl) (fun _ => rfl) fun _ => rfl

/-- MIX ignores the ports when the entry of the phase after it does. -/
theorem ignoresPorts_mixMove {leave : State → State} (hleave : IgnoresPorts p leave) :
    IgnoresPorts p (mixMove w n r leave) :=
  have hiter := ignoresPorts_mixIter p w n r
  .ite (fun _ => .rfl) hiter (hleave.comp hiter)

theorem ignoresPorts_encMove : IgnoresPorts p (encMove w r) :=
  .ite (fun _ => .rfl) (fun _ => rfl) (.ite (fun _ => .rfl) (fun _ => rfl) fun _ => rfl)

theorem ignoresPorts_decMove : IgnoresPorts p (decMove w r) :=
  .ite (fun _ => .rfl) (fun _ => rfl) (.ite (fun _ => .rfl) (fun _ => rfl) fun _ => rfl)

end

section
variable (p : Request) (i : Instr)

/-- The work of every command, as its meaning runs it, reads the latch and no port. -/
theorem ignoresPorts_commandWork : IgnoresPorts p (commandWork i) := by
  cases i with
  | expkey w n r =>
    have hbuild : IgnoresPorts p fun s => tableResponse r (s.setPH .finish) := fun _ => rfl
    exact hbuild.comp (ignoresPorts_keySchedule p w n r)
  | enc w n r =>
    have hpre : IgnoresPorts p fun s => prePhase w (s.setPH .pre) := fun _ => rfl
    have hbuild : IgnoresPorts p fun s => blockResponse (s.setPH .finish) := fun _ => rfl
    exact hbuild.comp ((ignoresPorts_encRounds p w r).comp (hpre.comp (ignoresPorts_keySchedule p w n r)))
  | dec w n r =>
    have henter : IgnoresPorts p (enterDecRounds w r) := fun _ => rfl
    have hpost : IgnoresPorts p fun s => blockResponse (postPhase w (s.setPH .post)) := fun _ => rfl
    exact hpost.comp ((ignoresPorts_decRounds p w r).comp (henter.comp (ignoresPorts_keySchedule p w n r)))
  | _ => exact fun _ => rfl

/-- CHECK tests the latch alone (30_encoding.md R85). -/
theorem ignoresPorts_checkMove : IgnoresPorts p (checkMove i) := fun s => by
  simp only [checkMove, State.setPorts_RQ]
  split
  · rfl
  · cases i <;> rfl

/-- The response builder of FINISH reads the table and the block only. -/
theorem ignoresPorts_buildResponse : IgnoresPorts p (buildResponse i) := by
  refine .ite (c := fun s => s.RSP.STATUS = .ok) (fun _ => .rfl) ?_ fun _ => rfl
  cases i <;> exact fun _ => rfl

theorem ignoresPorts_complete : IgnoresPorts p complete := fun _ => rfl

end

/-! ### The moves of the engine under other ports -/

section
variable {s t : State} (p : Request)

theorem execMove_setPorts {work : State → State} (hwork : IgnoresPorts p work) (h : execMove work s = some t) :
    execMove work (s.setPorts p) = some (t.setPorts p) := by
  unfold execMove at h
  split_ifs at h with hph
  cases h
  exact (if_pos hph).trans (congrArg some (hwork s))

/-- A move between CHECK and FINISH is the same under other ports. -/
theorem workMove_setPorts {i : Instr} (h : workMove i s = some t) :
    workMove i (s.setPorts p) = some (t.setPorts p) := by
  cases i with
  | expkey w n r =>
    simp only [workMove, expkeyMove, State.setPorts_PH] at h ⊢
    split at h <;> cases h
    · exact congrArg some (ignoresPorts_packMove p w n s)
    · exact congrArg some (ignoresPorts_initMove p w r s)
    · exact congrArg some (ignoresPorts_mixMove p w n r (fun _ => rfl) s)
  | enc w n r =>
    simp only [workMove, encSequence, State.setPorts_PH] at h ⊢
    split at h <;> cases h
    · exact congrArg some (ignoresPorts_packMove p w n s)
    · exact congrArg some (ignoresPorts_initMove p w r s)
    · exact congrArg some (ignoresPorts_mixMove p w n r (fun _ => rfl) s)
    · rfl
    · exact congrArg some (ignoresPorts_encMove p w r s)
  | dec w n r =>
    simp only [workMove, decSequence, State.setPorts_PH] at h ⊢
    split at h <;> cases h
    · exact congrArg some (ignoresPorts_packMove p w n s)
    · exact congrArg some (ignoresPorts_initMove p w r s)
    · exact congrArg some (ignoresPorts_mixMove p w n r (fun _ => rfl) s)
    · exact congrArg some (ignoresPorts_decMove p w r s)
    · rfl
  | _ => exact execMove_setPorts p (fun _ => rfl) h

/-- A move of the sequencer is the same under other ports. -/
theorem tick_setPorts (h : tick s = .next t) : tick (s.setPorts p) = .next (t.setPorts p) := by
  simp only [tick, State.setPorts_PH, State.setPorts_RQ] at h ⊢
  split at h
  · cases h
    rfl
  · cases h
    exact congrArg _ (ignoresPorts_checkMove p _ s)
  · cases h
    rfl
  · cases h
    exact congrArg (Host.Outcome.next <| complete ·) (ignoresPorts_buildResponse p _ s)
  · cases h
  · split at h <;> cases h
    simp only [workMove_setPorts p ‹_›]

/-- A whole command is the same under other ports. -/
theorem exec_setPorts {i : Instr} (h : exec i s = .next t) : exec i (s.setPorts p) = .next (t.setPorts p) := by
  rw [exec_eq_command] at h ⊢
  rw [State.setPorts_RQ]
  cases hcheck : checkOf i s.RQ with
  | some e =>
    rw [hcheck] at h
    cases h
    rfl
  | none =>
    rw [hcheck] at h
    cases h
    exact congrArg _ ((ignoresPorts_complete p).comp (ignoresPorts_commandWork p i) (passCheck s))

/-- The run of a latched word, legal or not, is the same under other ports. -/
theorem runCommand_setPorts (h : runCommand s = .next t) : runCommand (s.setPorts p) = .next (t.setPorts p) := by
  cases hdec : decode s.RQ.CMD with
  | error e =>
    rw [runCommand_of_error hdec] at h
    cases h
    exact runCommand_of_error (s := s.setPorts p) hdec
  | ok i =>
    rw [runCommand_of_ok hdec] at h
    exact (runCommand_of_ok (s := s.setPorts p) hdec).trans (exec_setPorts p h)

theorem engineMove_setPorts (h : engineMove s = .next t) : engineMove (s.setPorts p) = .next (t.setPorts p) := by
  simp only [engineMove, State.setPorts_ST] at h ⊢
  split at h
  · cases h
    rfl
  · split_ifs at h with hph
    · exact (if_pos hph).trans (runCommand_setPorts p h)
    · exact (if_neg hph).trans (tick_setPorts p h)

theorem phaseMove_setPorts (h : phaseMove s = .next t) : phaseMove (s.setPorts p) = .next (t.setPorts p) := by
  simp only [phaseMove, State.setPorts_ST] at h ⊢
  split at h
  · cases h
    rfl
  · exact tick_setPorts p h

/-- A step that is the engine's, a whole command or one move of the sequencer, is the same under other ports. -/
theorem step_setPorts (hturn : s.agenda.headD .engine = .engine ∨ s.agenda.headD .engine = .phase)
    (h : step s = .next t) : step (s.setPorts p) = .next (t.setPorts p) := by
  rw [step_eq_takeTurn] at h ⊢
  rw [State.setPorts_agenda]
  obtain hturn | hturn := hturn <;> rw [hturn] at h ⊢
  · exact engineMove_setPorts p h
  · exact phaseMove_setPorts p h

end

/-- Settles O4: a drive is the named update of the ports, and an empty agenda, an engine turn and a phase turn all
are steps of the engine, which the ports do not enter. -/
theorem portsHaveNoEffectOnACommandInFlight : Obligations.PortsHaveNoEffectOnACommandInFlight := by
  refine ⟨fun s p rest ha => ?_, fun s t p _ hag h => step_setPorts p ?_ h⟩
  · rw [step_eq_takeTurn, State.afterTurn, ha]
    rfl
  · obtain ha | ⟨rest, ha⟩ | ⟨rest, ha⟩ := hag <;> rw [ha]
    · exact .inl rfl
    · exact .inl rfl
    · exact .inr rfl

end Sys2Proof.Machine
end

section
/-!
SUPPORT. Completion (70_reset_and_hazards.md R216): the FINISH move, and the frame of every command.
-/

namespace Sys2Proof.Machine

/-- FINISH from any state completes and delivers one response: the one built, which an error leaves as it stands in
`RSP`. -/
theorem tick_finish_responds {s : State} (hph : s.PH = .finish) :
    ∃ rsp, tick s = .next (s.afterResponse rsp) ∧ (s.RSP.STATUS ≠ .ok → rsp = s.RSP) ∧
      ∀ i, decode s.RQ.CMD = .ok i → rsp = (buildResponse i s).RSP := by
  cases hdec : decode s.RQ.CMD with
  | error e =>
    have htick : tick s = .next (complete s) := by simp only [tick, hph, hdec]
    exact ⟨s.RSP, htick, fun _ => rfl, nofun⟩
  | ok i =>
    have htick : tick s = .next (complete (buildResponse i s)) := by simp only [tick, hph, hdec]
    rw [complete_of_sameHost (sameHost_buildResponse s i)] at htick
    refine ⟨_, htick, fun he => by rw [buildResponse_of_ne_ok i he], fun j hj => ?_⟩
    cases hj
    rfl

/-- Settles O20: a command and the FINISH move both end in the state after a response, where the engine is quiet and
its memories list no cell. -/
theorem everyCommandEndsQuietAndDeliversOneResponse :
    Obligations.EveryCommandEndsQuietAndDeliversOneResponse := by
  refine ⟨fun i s => ?_, fun s hph => ?_⟩
  · obtain ⟨rsp, hexec⟩ := exec_responds i s
    exact ⟨_, rsp, hexec, quiet_afterResponse s rsp, Memory.read_nil, Memory.read_nil, Memory.read_nil, rfl, rfl, rfl⟩
  · obtain ⟨rsp, htick, herror, hbuilt⟩ := tick_finish_responds hph
    exact ⟨_, rsp, htick, quiet_afterResponse s rsp, Memory.read_nil, Memory.read_nil, Memory.read_nil, rfl, rfl, rfl,
      herror, hbuilt⟩

end Sys2Proof.Machine
end

section
/-!
SUPPORT. The round trip between commands and command words (30_encoding.md R71), and the assembler forms
(30_encoding.md Table R83-a).
-/

namespace Sys2Proof

/-- Settles O8: a well-formed command is spelled by its encoding. -/
theorem decodingAnEncodedCommandGivesItBack : Obligations.DecodingAnEncodedCommandGivesItBack :=
  fun i hi => (decode_eq_ok_iff_eq_encode (encode i) hi).2 rfl

/-- Settles O9: what a word decodes to is well formed, and a well-formed command is spelled by no word but its
encoding. -/
theorem encodingADecodedWordGivesItBack : Obligations.EncodingADecodedWordGivesItBack := by
  intro c i h
  have hi : i.wf = true := wf_of_decode h
  exact ⟨hi, ((decode_eq_ok_iff_eq_encode c hi).1 h).symm⟩

/-- Settles O10: the ten words are closed, so the decoder is evaluated on each. -/
theorem wordsWrittenOutDecodeAsTheSpecSays : Obligations.WordsWrittenOutDecodeAsTheSpecSays := by
  unfold Obligations.WordsWrittenOutDecodeAsTheSpecSays
  decide

namespace Machine

/-- The byte string of a form that can be encoded fits the buffer: it is empty, or its length is the byte count of
the command. -/
theorem AsmForm.length_bytes_le {f : AsmForm} (h : f.instr.wf = true) : f.bytes.length ≤ 255 := by
  have hn := Instr.nOperand_le h
  cases f with
  | fromle _ _ | expkey _ _ _ | enc _ _ _ _ _ | dec _ _ _ _ _ => exact hn
  | _ => exact Nat.zero_le _

/-- A port or a buffer that the command does not read is zero in the request of its form. -/
theorem AsmForm.request_unread (f : AsmForm) :
    (f.instr.readsX0 = false → f.request.X0 = 0) ∧ (f.instr.readsX1 = false → f.request.X1 = 0) ∧
    (f.instr.readsBuf = false → f.request.BUF = []) := by
  cases f with
  | add | sub | rotl | rotr => exact ⟨nofun, nofun, fun _ => rfl⟩
  | tole => exact ⟨nofun, fun _ => rfl, fun _ => rfl⟩
  | fromle | expkey => exact ⟨fun _ => rfl, fun _ => rfl, nofun⟩
  | const => exact ⟨fun _ => rfl, fun _ => rfl, fun _ => rfl⟩
  | enc | dec => exact ⟨nofun, nofun, nofun⟩

/-- Settles O14: the word of a form is the encoding of its command, its buffer is that of its byte string, and the
Words stand where the rows of the table name them. -/
theorem assemblerFormsProduceTheirRequests : Obligations.AssemblerFormsProduceTheirRequests := by
  intro f hf
  obtain ⟨h0, h1, hbuf⟩ := f.request_unread
  have hlen : 0 + f.bytes.length ≤ 255 := (Nat.zero_add _).trans_le (AsmForm.length_bytes_le hf)
  refine ⟨decodingAnEncodedCommandGivesItBack _ hf, fun h => ?_, wf_bufferOf f.bytes 0 255 hlen, h0, h1, hbuf, ?_⟩
  · exact read_bufferOf f.bytes 0 h
  · cases f with
    | add | sub | rotl | rotr => exact ⟨rfl, rfl⟩
    | tole | fromle | const => rfl
    | expkey => exact ⟨rfl, rfl⟩
    | enc | dec => exact ⟨rfl, rfl, rfl, rfl⟩

end Machine

end Sys2Proof
end

section
/-!
SUPPORT. What a move of the sequencer can do (10_state.md R28, Table R28-a): CHECK, FINISH, and between them one case
for each phase. From these cases follow the phase order and what the moves leave unchanged.
-/

namespace Sys2Proof

/-- The commands whose work starts with the key schedule: EXPKEY, ENC and DEC (10_state.md Table R28-a). -/
def Instr.isKeyed : Instr → Bool
  | .expkey _ _ _ | .enc _ _ _ | .dec _ _ _ => true
  | _ => false

theorem Instr.exists_of_isKeyed {i : Instr} (h : i.isKeyed = true) :
    ∃ w n r, i = .expkey w n r ∨ i = .enc w n r ∨ i = .dec w n r := by
  cases i with
  | expkey w n r => exact ⟨w, n, r, .inl rfl⟩
  | enc w n r => exact ⟨w, n, r, .inr (.inl rfl)⟩
  | dec w n r => exact ⟨w, n, r, .inr (.inr rfl)⟩
  | _ => cases h

namespace Machine

/-! ### The moves between CHECK and FINISH -/

/-- The entry of the phase after MIX. -/
def leaveMix : Instr → State → State
  | .enc _ _ _ => fun s => s.setPH .pre
  | .dec w _ r => enterDecRounds w r
  | _ => fun s => s.setPH .finish

/-- The moves of a command between CHECK and FINISH, one case for each phase. -/
inductive WorkMove (i : Instr) (s : State) : State → Prop
  | exec (hi : i.isKeyed = false) (hph : s.PH = .exec) : WorkMove i s (commandWork i s)
  | pack (hi : i.isKeyed = true) (hph : s.PH = .pack) : WorkMove i s (packMove i.width i.nOperand s)
  | init (hi : i.isKeyed = true) (hph : s.PH = .init) : WorkMove i s (initMove i.width i.rOperand s)
  | mix (hi : i.isKeyed = true) (hph : s.PH = .mix) :
      WorkMove i s (mixMove i.width i.nOperand i.rOperand (leaveMix i) s)
  | pre {w : Width} {n r : Nat} (hi : i = .enc w n r) (hph : s.PH = .pre) : WorkMove i s (prePhase w s)
  | encRounds {w : Width} {n r : Nat} (hi : i = .enc w n r) (hph : s.PH = .rounds) : WorkMove i s (encMove w r s)
  | decRounds {w : Width} {n r : Nat} (hi : i = .dec w n r) (hph : s.PH = .rounds) : WorkMove i s (decMove w r s)
  | post {w : Width} {n r : Nat} (hi : i = .dec w n r) (hph : s.PH = .post) : WorkMove i s (postPhase w s)

theorem workMove_of_eq_some {i : Instr} {s t : State} (h : workMove i s = some t) : WorkMove i s t := by
  cases i with
  | expkey w n r =>
    simp only [workMove, expkeyMove] at h
    split at h <;> cases h
    · exact .pack rfl ‹_›
    · exact .init rfl ‹_›
    · exact .mix rfl ‹_›
  | enc w n r =>
    simp only [workMove, encSequence] at h
    split at h <;> cases h
    · exact .pack rfl ‹_›
    · exact .init rfl ‹_›
    · exact .mix rfl ‹_›
    · exact .pre rfl ‹_›
    · exact .encRounds rfl ‹_›
  | dec w n r =>
    simp only [workMove, decSequence] at h
    split at h <;> cases h
    · exact .pack rfl ‹_›
    · exact .init rfl ‹_›
    · exact .mix rfl ‹_›
    · exact .decRounds rfl ‹_›
    · exact .post rfl ‹_›
  | _ =>
    simp only [workMove, execMove] at h
    split_ifs at h with hph
    cases h
    exact .exec rfl hph

theorem WorkMove.eq_some {i : Instr} {s t : State} (h : WorkMove i s t) : workMove i s = some t := by
  cases h with
  | exec hi hph =>
    cases i with
    | expkey | enc | dec => cases hi
    | _ => exact if_pos hph
  | pack hi hph | init hi hph | mix hi hph =>
    obtain ⟨w, n, r, rfl | rfl | rfl⟩ := Instr.exists_of_isKeyed hi <;>
      simp only [workMove, expkeyMove, encSequence, decSequence, hph] <;> rfl
  | pre hi hph | encRounds hi hph | decRounds hi hph | post hi hph =>
    subst hi
    simp only [workMove, encSequence, decSequence, hph]

/-- The phase of a move is one of its command's, and CHECK and FINISH are not among them. -/
theorem WorkMove.phase_ne {i : Instr} {s t : State} (h : WorkMove i s t) : s.PH ≠ .check ∧ s.PH ≠ .finish := by
  cases h <;> simp_all

/-- A move between CHECK and FINISH is the sequencer's move. -/
theorem WorkMove.tick_eq {i : Instr} {s t : State} (h : WorkMove i s t) (hdec : decode s.RQ.CMD = .ok i) :
    tick s = .next t := by
  have hmove := h.eq_some
  cases h with
  | exec _ hph | pack _ hph | init _ hph | mix _ hph | pre _ hph | encRounds _ hph | decRounds _ hph | post _ hph =>
    simp only [tick, hph, hdec, hmove]

/-- Everything a move of the sequencer can do: CHECK of an illegal word and of a command, FINISH, and the work between
them (10_state.md R28). -/
theorem tick_next_cases {s t : State} (h : tick s = .next t) :
    s.PH = .check ∧ (∃ x, decode s.RQ.CMD = .error x) ∧ t = reject .illegalCommand s ∨
    s.PH = .check ∧ (∃ i, decode s.RQ.CMD = .ok i ∧ t = checkMove i s) ∨
    s.PH = .finish ∧ (∃ rsp, t = s.afterResponse rsp) ∨
    ∃ i, decode s.RQ.CMD = .ok i ∧ WorkMove i s t := by
  unfold tick at h
  split at h
  case h_1 hph hdec =>
    cases h
    exact .inl ⟨hph, ⟨_, hdec⟩, rfl⟩
  case h_2 hph hdec =>
    cases h
    exact .inr (.inl ⟨hph, _, hdec, rfl⟩)
  case h_3 hph _ =>
    cases h
    exact .inr (.inr (.inl ⟨hph, _, complete_eq s⟩))
  case h_4 hph _ =>
    cases h
    exact .inr (.inr (.inl ⟨hph, _, complete_of_sameHost (sameHost_buildResponse s _)⟩))
  case h_5 => cases h
  case h_6 hdec _ _ =>
    split at h <;> cases h
    exact .inr (.inr (.inr ⟨_, hdec, workMove_of_eq_some ‹_›⟩))

/-! ### The order of the phases -/

section
variable (w : Width) (n r : Nat) (s : State)

theorem packMove_PH : (packMove w n s).PH = .init ∨ (packMove w n s).PH = s.PH := by
  unfold packMove
  split_ifs
  · exact .inl rfl
  · exact .inl rfl
  · exact .inr rfl

theorem initMove_PH : (initMove w r s).PH = s.PH ∨ (initMove w r s).PH = .mix := by
  unfold initMove
  split_ifs
  · exact .inl rfl
  · exact .inr rfl

theorem leaveMix_PH (i : Instr) (s : State) (hi : i.isKeyed = true) :
    (.mix, (leaveMix i s).PH) ∈ (phaseOrder i).zip (phaseOrder i).tail := by
  obtain ⟨w, n, r, rfl | rfl | rfl⟩ := Instr.exists_of_isKeyed hi <;> simp [leaveMix, phaseOrder, enterDecRounds]

theorem encMove_PH : (encMove w r s).PH = s.PH ∨ (encMove w r s).PH = .finish := by
  unfold encMove
  split_ifs
  · exact .inr rfl
  · exact .inl (encRound_PH w r s)
  · exact .inr rfl

theorem decMove_PH : (decMove w r s).PH = s.PH ∨ (decMove w r s).PH = .post := by
  unfold decMove
  split_ifs
  · exact .inr rfl
  · exact .inl (decRound_PH w s)
  · exact .inr rfl

end

theorem commandWork_PH (i : Instr) (s : State) : (commandWork i s).PH = .finish := by cases i <;> rfl

/-- EXEC is the only phase between CHECK and FINISH of a command without a key schedule. -/
theorem phaseOrder_of_not_isKeyed {i : Instr} (hi : i.isKeyed = false) : phaseOrder i = [.check, .exec, .finish] := by
  cases i with
  | expkey | enc | dec => cases hi
  | _ => rfl

/-- A move between CHECK and FINISH stays in a looping phase or goes on to the next phase of the command. -/
theorem WorkMove.phase_next {i : Instr} {s t : State} (h : WorkMove i s t) :
    (t.PH = s.PH ∧ s.PH ∈ [.pack, .init, .mix, .rounds]) ∨ (s.PH, t.PH) ∈ (phaseOrder i).zip (phaseOrder i).tail := by
  cases h with
  | exec hi hph => simp [phaseOrder_of_not_isKeyed hi, hph, commandWork_PH]
  | pack hi hph =>
    obtain hnext | hsame := packMove_PH i.width i.nOperand s
    · obtain ⟨w, n, r, rfl | rfl | rfl⟩ := Instr.exists_of_isKeyed hi <;> simp [phaseOrder, hph, hnext]
    · exact .inl ⟨hsame, by simp [hph]⟩
  | init hi hph =>
    obtain hsame | hnext := initMove_PH i.width i.rOperand s
    · exact .inl ⟨hsame, by simp [hph]⟩
    · obtain ⟨w, n, r, rfl | rfl | rfl⟩ := Instr.exists_of_isKeyed hi <;> simp [phaseOrder, hph, hnext]
  | mix hi hph =>
    unfold mixMove
    split_ifs
    · exact .inl ⟨mixIter_PH _ _ _ s, by simp [hph]⟩
    · exact .inr (hph ▸ leaveMix_PH i _ hi)
  | pre hi hph => simp [hi, phaseOrder, hph, prePhase]
  | encRounds hi hph =>
    obtain hsame | hnext := encMove_PH _ _ s
    · exact .inl ⟨hsame, by simp [hph]⟩
    · simp [hi, phaseOrder, hph, hnext]
  | decRounds hi hph =>
    obtain hsame | hnext := decMove_PH _ _ s
    · exact .inl ⟨hsame, by simp [hph]⟩
    · simp [hi, phaseOrder, hph, hnext]
  | post hi hph => simp [hi, phaseOrder, hph, postPhase]

/-- A command that passes CHECK enters its second phase. -/
theorem enterWork_PH (i : Instr) (s : State) :
    (.check, (enterWork i s).PH) ∈ (phaseOrder i).zip (phaseOrder i).tail := by
  cases i <;> simp [enterWork, enterPack, phaseOrder]

/-- CHECK goes on to the command's second phase, or to FINISH when a check fails. -/
theorem checkMove_PH (i : Instr) (s : State) :
    (.check, (checkMove i s).PH) ∈ (phaseOrder i).zip (phaseOrder i).tail ∨
    (checkMove i s).PH = .finish ∧ checkOf i s.RQ ≠ none := by
  unfold checkMove
  cases checkOf i s.RQ with
  | some e => exact .inr ⟨rfl, nofun⟩
  | none => exact .inl (enterWork_PH i (passCheck s))

/-- Settles O49: the cases of a move, CHECK, FINISH and the work between them, each with its next phase. -/
theorem phasesFollowTheOrderOfTheTable : Obligations.PhasesFollowTheOrderOfTheTable := by
  intro s t i hdec h
  obtain ⟨-, ⟨x, hx⟩, -⟩ | ⟨hph, j, hj, rfl⟩ | ⟨hph, rsp, rfl⟩ | ⟨j, hj, hmove⟩ := tick_next_cases h
  · cases hdec.symm.trans hx
  · cases hdec.symm.trans hj
    rw [hph]
    obtain hnext | hfail := checkMove_PH i s
    · exact .inr (.inl hnext)
    · exact .inr (.inr (.inr ⟨rfl, hfail⟩))
  · exact .inr (.inr (.inl ⟨hph, rfl⟩))
  · cases hdec.symm.trans hj
    exact hmove.phase_next.imp_right .inl

/-! ### What the moves leave unchanged -/

section
variable (w : Width) (n r : Nat) (s : State)

theorem packMove_request : (packMove w n s).RQ = s.RQ ∧ (packMove w n s).RSP = s.RSP := by
  unfold packMove
  split_ifs <;> simp

theorem initMove_request : (initMove w r s).RQ = s.RQ ∧ (initMove w r s).RSP = s.RSP := by
  unfold initMove
  split_ifs <;> simp

theorem leaveMix_request (i : Instr) : (leaveMix i s).RQ = s.RQ ∧ (leaveMix i s).RSP = s.RSP := by
  cases i <;> exact ⟨rfl, rfl⟩

theorem mixMove_request (i : Instr) :
    (mixMove w n r (leaveMix i) s).RQ = s.RQ ∧ (mixMove w n r (leaveMix i) s).RSP = s.RSP := by
  unfold mixMove
  split_ifs <;> simp [leaveMix_request]

/-- Two states with one expanded table, packed key, key schedule counters and response: what PRE, ROUNDS and POST leave
as they are (20_memory.md R53). -/
def SameTable (t s : State) : Prop :=
  t.S = s.S ∧ t.L = s.L ∧ t.i = s.i ∧ t.j = s.j ∧ t.k = s.k ∧ t.h = s.h ∧ t.RSP = s.RSP

theorem encMove_keeps : (encMove w r s).RQ = s.RQ ∧ SameTable (encMove w r s) s := by
  unfold encMove SameTable
  split_ifs <;> simp

theorem decMove_keeps : (decMove w r s).RQ = s.RQ ∧ SameTable (decMove w r s) s := by
  unfold decMove SameTable
  split_ifs <;> simp

end

/-- A move between CHECK and FINISH keeps the request, and in PRE, ROUNDS and POST the table as well. -/
theorem WorkMove.keeps {i : Instr} {s t : State} (h : WorkMove i s t) :
    t.RQ = s.RQ ∧ (s.PH = .pre ∨ s.PH = .rounds ∨ s.PH = .post → SameTable t s) := by
  cases h with
  | exec hi hph =>
    refine ⟨?_, by simp [hph]⟩
    cases i with
    | expkey | enc | dec => cases hi
    | _ => rfl
  | pack hi hph => exact ⟨(packMove_request _ _ s).1, by simp [hph]⟩
  | init hi hph => exact ⟨(initMove_request _ _ s).1, by simp [hph]⟩
  | mix hi hph => exact ⟨(mixMove_request _ _ _ s i).1, by simp [hph]⟩
  | pre hi hph => exact ⟨rfl, fun _ => ⟨rfl, rfl, rfl, rfl, rfl, rfl, rfl⟩⟩
  | encRounds hi hph =>
    obtain ⟨hRQ, htable⟩ := encMove_keeps _ _ s
    exact ⟨hRQ, fun _ => htable⟩
  | decRounds hi hph =>
    obtain ⟨hRQ, htable⟩ := decMove_keeps _ _ s
    exact ⟨hRQ, fun _ => htable⟩
  | post hi hph => exact ⟨rfl, fun _ => ⟨rfl, rfl, rfl, rfl, rfl, rfl, rfl⟩⟩

/-- CHECK keeps the request latch. -/
theorem checkMove_RQ (i : Instr) (s : State) : (checkMove i s).RQ = s.RQ := by
  unfold checkMove
  split
  · rfl
  · cases i <;> rfl

/-- Settles O51: CHECK writes the response and the phase, or enters PACK; each move of the work after it has its own
frame. -/
theorem movesKeepTheRequestAndTheFinishedTable : Obligations.MovesKeepTheRequestAndTheFinishedTable := by
  intro s t h hne
  obtain ⟨hph, -, rfl⟩ | ⟨hph, i, -, rfl⟩ | ⟨hph, -⟩ | ⟨i, -, hmove⟩ := tick_next_cases h
  · exact ⟨rfl, rfl, rfl, rfl, rfl, by simp [hph]⟩
  · obtain ⟨hST, hports, hagenda, hresp⟩ := sameRun_checkMove s i
    exact ⟨checkMove_RQ i s, hST, hports, hagenda, hresp, by simp [hph]⟩
  · exact absurd hph hne
  · obtain ⟨hRQ, htable⟩ := hmove.keeps
    obtain ⟨hST, hports, hagenda, hresp⟩ := sameRun_workMove hmove.eq_some
    exact ⟨hRQ, hST, hports, hagenda, hresp, htable⟩

end Machine

end Sys2Proof
end

section
/-!
SUPPORT. The invariant of the machine: each phase keeps the counters in range and the working elements Words of the
width, in the cells in use (10_state.md R24, R34, 00_scope.md R11).
-/

namespace Sys2Proof.Machine

/-! ### The working state in range, phase by phase -/

/-- Counters and working elements are in range for a command of width `w`, key length `n` and round count `r`. -/
def State.InRange (s : State) (w : Width) (n r : Nat) : Prop := s.CountersInRange w n r ∧ s.WorkInRange w n r

section
variable {w : Width} {n r : Nat} {s : State}

/-- Only MIX bounds its count more tightly than the other phases do. -/
theorem State.InRange.setPH (h : s.InRange w n r) {p : Phase} (hp : p ≠ .mix) : (s.setPH p).InRange w n r := by
  obtain ⟨⟨hi, hj, hk, -, hh, hrnd⟩, hwork⟩ := h
  exact ⟨⟨hi, hj, hk, fun e => absurd e hp, hh, hrnd⟩, hwork⟩

theorem inRange_enterPack (h : s.InRange w n r) : (enterPack w n s).InRange w n r := by
  obtain ⟨⟨hi, hj, hk, -, -, hrnd⟩, hA, hB, hL, hS, hwfL, hwfS⟩ := h
  have hh : (n - 1) % 255 < max 1 n := Nat.lt_of_le_of_lt (Nat.mod_le _ _) (by omega)
  exact ⟨⟨hi, hj, hk, nofun, hh, hrnd⟩, hA, hB, words_clear hL _, hS, Memory.wf_clear hwfL le_rfl, hwfS⟩

theorem inRange_packIter (h : s.InRange w n r) (hn : n ≠ 0) : (packIter w s).InRange w n r := by
  obtain ⟨⟨hi, hj, hk, hmix, hh, hrnd⟩, hA, hB, hL, hS, hwfL, hwfS⟩ := h
  have hcell : s.h.val / w.bytes < keyWords w n := div_bytes_lt_keyWords w (by omega)
  have hh' : (packIter w s).h.val < max 1 n := by
    rw [packIter_h]
    omega
  exact ⟨⟨hi, hj, hk, hmix, hh', hrnd⟩, hA, hB, words_write hL _ (isWord_wadd w _ _), hS,
    Memory.wf_write hwfL hcell _, hwfS⟩

theorem inRange_enterInit (h : s.InRange w n r) : (enterInit w s).InRange w n r := by
  obtain ⟨⟨-, hj, hk, -, hh, hrnd⟩, hA, hB, hL, hS, hwfL, hwfS⟩ := h
  have hT := tableSize_ge r
  exact ⟨⟨hT, hj, hk, nofun, hh, hrnd⟩, hA, hB, hL, words_write hS _ (isWord_romP w), hwfL,
    Memory.wf_write hwfS (by omega) _⟩

theorem inRange_initIter (h : s.InRange w n r) : (initIter w r s).InRange w n r := by
  obtain ⟨⟨hi, hj, hk, hmix, hh, hrnd⟩, hA, hB, hL, hS, hwfL, hwfS⟩ := h
  exact ⟨⟨initIter_i_lt w hi, hj, hk, hmix, hh, hrnd⟩, hA, hB, hL, words_write hS _ (isWord_wadd w _ _), hwfL,
    Memory.wf_write hwfS hi _⟩

theorem inRange_enterMix (h : s.InRange w n r) : (enterMix s).InRange w n r := by
  obtain ⟨⟨-, -, -, -, hh, hrnd⟩, -, -, hL, hS, hwfL, hwfS⟩ := h
  have hT := tableSize_ge r
  exact ⟨⟨Nat.lt_of_lt_of_le Nat.two_pos hT, keyWords_pos w n, Nat.zero_le _, fun _ => mixCount_pos w n r, hh, hrnd⟩,
    isWord_zero w, isWord_zero w, hL, hS, hwfL, hwfS⟩

theorem isWord_mixedA (w : Width) (s : State) : IsWord w (mixedA w s) := isWord_rotl (isWord_wadd w _ _) _

theorem isWord_mixedB (w : Width) (s : State) : IsWord w (mixedB w s) := isWord_rotl (isWord_wadd w _ _) _

theorem mixIter_k_eq (w : Width) (n r : Nat) (s : State) :
    (mixIter w n r s).k = Fin.ofNat 1537 (s.k.val + 1) := rfl

theorem mixIter_k (w : Width) (n r : Nat) {s : State} (hk : s.k.val < 1536) :
    (mixIter w n r s).k.val = s.k.val + 1 :=
  Nat.mod_eq_of_lt (show s.k.val + 1 < 1537 by omega)

/-- An iteration of MIX, after which the sequencer is in phase `p`: MIX while iterations are left, else the next. -/
theorem inRange_mixIter (hn : n ≤ 255) (hr : r ≤ 255) (h : s.InRange w n r) (hk : s.k.val < mixCount w n r) {p : Phase}
    (hp : p = .mix → s.k.val + 1 < mixCount w n r) : ((mixIter w n r s).setPH p).InRange w n r := by
  obtain ⟨⟨hi, hj, -, -, hh, hrnd⟩, -, -, hL, hS, hwfL, hwfS⟩ := h
  have hformL : Memory.wf Config.keyDepth s.L := Memory.wf_mono hwfL (keyWords_le hn w)
  have hformS : Memory.wf Config.tableDepth s.S := Memory.wf_mono hwfS (tableSize_le hr)
  obtain ⟨hA, hB, hS', hL'⟩ := mixIter_work w n r hformL hformS
  obtain ⟨hi', hj'⟩ := mixIter_index w s hn hr
  have hk' : (mixIter w n r s).k.val = s.k.val + 1 := mixIter_k w n r (hk.trans_le (mixCount_le hn hr w))
  have hT := tableSize_ge r
  refine ⟨⟨?_, ?_, ?_, ?_, ?_, ?_⟩, ?_, ?_, ?_, ?_, ?_, ?_⟩ <;>
    simp only [State.setPH_i, State.setPH_j, State.setPH_k, State.setPH_h, State.setPH_rnd, State.setPH_A,
      State.setPH_B, State.setPH_L, State.setPH_S, State.setPH_PH, hi', hj', hk', hA, hB, hS', hL', mixIter_h,
      mixIter_rnd]
  · exact Nat.mod_lt _ (by omega)
  · exact Nat.mod_lt _ (keyWords_pos w n)
  · exact hk
  · exact hp
  · exact hh
  · exact hrnd
  · exact isWord_mixedA w s
  · exact isWord_mixedB w s
  · exact words_write hL _ (isWord_mixedB w s)
  · exact words_write hS _ (isWord_mixedA w s)
  · exact Memory.wf_write hwfL hj _
  · exact Memory.wf_write hwfS hi _

theorem inRange_prePhase (h : s.InRange w n r) : (prePhase w s).InRange w n r := by
  obtain ⟨⟨hi, hj, hk, -, hh, -⟩, -, -, hL, hS, hwfL, hwfS⟩ := h
  exact ⟨⟨hi, hj, hk, nofun, hh, Nat.le_max_left 1 r⟩, isWord_wadd w _ _, isWord_wadd w _ _, hL, hS, hwfL, hwfS⟩

theorem inRange_encRound (h : s.InRange w n r) : (encRound w r s).InRange w n r := by
  obtain ⟨⟨hi, hj, hk, hmix, hh, hrnd⟩, -, -, hL, hS, hwfL, hwfS⟩ := h
  have hrnd' : (encRound w r s).rnd.val ≤ max 1 r := by
    simp only [encRound, State.setRnd_rnd]
    split
    · exact (Nat.mod_le _ _).trans (by omega)
    · exact hrnd
  exact ⟨⟨hi, hj, hk, hmix, hh, hrnd'⟩, isWord_wadd w _ _, isWord_wadd w _ _, hL, hS, hwfL, hwfS⟩

theorem inRange_enterDecRounds (h : s.InRange w n r) : (enterDecRounds w r s).InRange w n r := by
  obtain ⟨⟨hi, hj, hk, -, hh, -⟩, -, -, hL, hS, hwfL, hwfS⟩ := h
  have hrnd : r % 256 ≤ max 1 r := (Nat.mod_le _ _).trans (Nat.le_max_right 1 r)
  exact ⟨⟨hi, hj, hk, nofun, hh, hrnd⟩, isWord_portWord w _, isWord_portWord w _, hL, hS, hwfL, hwfS⟩

theorem inRange_decRound (h : s.InRange w n r) : (decRound w s).InRange w n r := by
  obtain ⟨⟨hi, hj, hk, hmix, hh, hrnd⟩, hA, -, hL, hS, hwfL, hwfS⟩ := h
  have hrnd' : (decRound w s).rnd.val ≤ max 1 r := by
    simp only [decRound, State.setRnd_rnd]
    split
    · exact (Nat.mod_le _ _).trans (by omega)
    · exact hrnd
  have hB : IsWord w (decRound w s).B := isWord_wxor (isWord_rotr (isWord_wsub w _ _) _) hA
  exact ⟨⟨hi, hj, hk, hmix, hh, hrnd'⟩, isWord_wxor (isWord_rotr (isWord_wsub w _ _) _) hB, hB, hL, hS, hwfL, hwfS⟩

theorem inRange_postPhase (h : s.InRange w n r) : (postPhase w s).InRange w n r := by
  obtain ⟨⟨hi, hj, hk, -, hh, hrnd⟩, -, -, hL, hS, hwfL, hwfS⟩ := h
  exact ⟨⟨hi, hj, hk, nofun, hh, hrnd⟩, isWord_wsub w _ _, isWord_wsub w _ _, hL, hS, hwfL, hwfS⟩

/-! ### The moves -/

theorem inRange_packMove (h : s.InRange w n r) : (packMove w n s).InRange w n r := by
  unfold packMove
  split_ifs with hn
  · exact inRange_enterInit h
  · exact inRange_enterInit (inRange_packIter h hn)
  · exact inRange_packIter h hn

theorem inRange_initMove (h : s.InRange w n r) : (initMove w r s).InRange w n r := by
  unfold initMove
  split_ifs
  · exact inRange_initIter h
  · exact inRange_enterMix (inRange_initIter h)

theorem inRange_encMove (h : s.InRange w n r) : (encMove w r s).InRange w n r := by
  unfold encMove
  split_ifs
  · exact h.setPH (by decide)
  · exact inRange_encRound h
  · exact (inRange_encRound h).setPH (by decide)

theorem inRange_decMove (h : s.InRange w n r) : (decMove w r s).InRange w n r := by
  unfold decMove
  split_ifs
  · exact h.setPH (by decide)
  · exact inRange_decRound h
  · exact (inRange_decRound h).setPH (by decide)

end

/-- The entry of the phase after MIX, from the state after the last iteration with that phase set. -/
theorem inRange_leaveMix (i : Instr) {s : State}
    (h : ∀ p : Phase, p ≠ .mix → (s.setPH p).InRange i.width i.nOperand i.rOperand) :
    (leaveMix i s).InRange i.width i.nOperand i.rOperand := by
  cases i with
  | enc w n r => exact h .pre (by decide)
  | dec w n r => exact inRange_enterDecRounds (s := s.setPH .rounds) (h .rounds (by decide))
  | _ => exact h .finish (by decide)

theorem inRange_mixMove {i : Instr} {s : State} (hn : i.nOperand ≤ 255) (hr : i.rOperand ≤ 255) (hph : s.PH = .mix)
    (h : s.InRange i.width i.nOperand i.rOperand) :
    (mixMove i.width i.nOperand i.rOperand (leaveMix i) s).InRange i.width i.nOperand i.rOperand := by
  obtain ⟨-, -, -, hmix, -⟩ := h.1
  have hk := hmix hph
  unfold mixMove
  split_ifs with hmore
  · have hsame : (mixIter i.width i.nOperand i.rOperand s).setPH .mix = mixIter i.width i.nOperand i.rOperand s := by
      rw [← hph]
      rfl
    rw [← hsame]
    exact inRange_mixIter hn hr h hk fun _ => hmore
  · exact inRange_leaveMix i fun p hp => inRange_mixIter hn hr h hk fun e => absurd e hp

/-- Every move between CHECK and FINISH keeps the working state in range. -/
theorem WorkMove.inRange {i : Instr} {s t : State} (hmove : WorkMove i s t) (hn : i.nOperand ≤ 255)
    (hr : i.rOperand ≤ 255) (h : s.InRange i.width i.nOperand i.rOperand) :
    t.InRange i.width i.nOperand i.rOperand := by
  cases hmove with
  | exec hi hph =>
    cases i with
    | expkey | enc | dec => cases hi
    | _ => exact h.setPH (p := .finish) (by decide)
  | pack hi hph => exact inRange_packMove h
  | init hi hph => exact inRange_initMove h
  | mix hi hph => exact inRange_mixMove hn hr hph h
  | pre hi hph =>
    subst hi
    exact inRange_prePhase h
  | encRounds hi hph =>
    subst hi
    exact inRange_encMove h
  | decRounds hi hph =>
    subst hi
    exact inRange_decMove h
  | post hi hph =>
    subst hi
    exact inRange_postPhase h

/-! ### The invariant -/

/-- A BUSY engine in flight past CHECK with its checks passed: what its moves have to keep. -/
structure State.Working (s : State) (i : Instr) : Prop where
  check : checkOf i s.RQ = none
  status : s.RSP.STATUS = .ok
  phase : s.PH ∈ phaseOrder i
  range : s.InRange i.width i.nOperand i.rOperand

/-- A command past CHECK is running: the cells in use are within the depths of the memories. -/
theorem State.Working.running {s : State} {i : Instr} (h : s.Working i) (hdec : decode s.RQ.CMD = .ok i)
    (hbuf : Memory.wf Config.bufDepth s.RQ.BUF) : s.Running := by
  obtain ⟨hcheck, hstatus, hphase, hcounters, hwork⟩ := h
  have hn : i.nOperand ≤ 255 := Instr.nOperand_le (wf_of_decode hdec)
  have hr : i.rOperand ≤ 255 := ((checkOf_eq_none_iff i s.RQ).1 hcheck).2
  obtain ⟨-, -, -, -, hwfL, hwfS⟩ := id hwork
  refine ⟨hbuf, ⟨Memory.wf_mono hwfL (keyWords_le hn _), Memory.wf_mono hwfS (tableSize_le hr)⟩, ?_⟩
  rw [hdec]
  exact ⟨hphase, .inl ⟨.inr hcheck, hstatus⟩, hcounters, hwork⟩

/-- A running engine in a phase between CHECK and FINISH has passed its checks. -/
theorem State.Running.working {s : State} {i : Instr} (h : s.Running) (hdec : decode s.RQ.CMD = .ok i)
    (hc : s.PH ≠ .check) (hf : s.PH ≠ .finish) : s.Working i := by
  obtain ⟨-, -, hflight⟩ := h
  rw [hdec] at hflight
  obtain ⟨hphase, ⟨hcheck | hcheck, hstatus⟩ | ⟨hph, -⟩, hcounters, hwork⟩ := hflight
  · exact absurd hcheck hc
  · exact ⟨hcheck, hstatus, hphase, hcounters, hwork⟩
  · exact absurd hph hf

theorem mem_of_mem_zip_tail {i : Instr} {p q : Phase} (h : (p, q) ∈ (phaseOrder i).zip (phaseOrder i).tail) :
    q ∈ phaseOrder i := List.mem_of_mem_tail (List.of_mem_zip h).2

/-- A move between CHECK and FINISH leaves a response with STATUS OK. -/
theorem WorkMove.status {i : Instr} {s t : State} (h : WorkMove i s t) (hs : s.RSP.STATUS = .ok) :
    t.RSP.STATUS = .ok := by
  cases h with
  | exec hi hph => exact commandWork_status i s
  | pack hi hph => rwa [(packMove_request _ _ s).2]
  | init hi hph => rwa [(initMove_request _ _ s).2]
  | mix hi hph => rwa [(mixMove_request _ _ _ s i).2]
  | pre hi hph | post hi hph => exact hs
  | encRounds hi hph =>
    obtain ⟨-, -, -, -, -, -, -, hRSP⟩ := encMove_keeps _ _ s
    rwa [hRSP]
  | decRounds hi hph =>
    obtain ⟨-, -, -, -, -, -, -, hRSP⟩ := decMove_keeps _ _ s
    rwa [hRSP]

/-- A move between CHECK and FINISH keeps what it has to. -/
theorem WorkMove.working {i : Instr} {s t : State} (hmove : WorkMove i s t) (hi : i.wf = true) (h : s.Working i) :
    t.Working i := by
  obtain ⟨hcheck, hstatus, hphase, hrange⟩ := h
  have hr : i.rOperand ≤ 255 := ((checkOf_eq_none_iff i s.RQ).1 hcheck).2
  refine ⟨hmove.keeps.1 ▸ hcheck, hmove.status hstatus, ?_, hmove.inRange (Instr.nOperand_le hi) hr hrange⟩
  obtain ⟨hsame, -⟩ | hnext := hmove.phase_next
  · rwa [hsame]
  · exact mem_of_mem_zip_tail hnext

/-- The entry of a command's second phase keeps the working state in range. -/
theorem inRange_enterWork (i : Instr) {s : State} (h : s.InRange i.width i.nOperand i.rOperand) :
    (enterWork i s).InRange i.width i.nOperand i.rOperand := by
  cases i with
  | expkey w n r | enc w n r | dec w n r => exact inRange_enterPack h
  | _ => exact h.setPH (p := .exec) (by decide)

/-- The entry of a command's second phase keeps the request and the response. -/
theorem enterWork_request (i : Instr) (s : State) : (enterWork i s).RQ = s.RQ ∧ (enterWork i s).RSP = s.RSP := by
  cases i <;> exact ⟨rfl, rfl⟩

/-- Every command starts with CHECK and ends with FINISH (10_state.md Table R28-a). -/
theorem check_and_finish_mem_phaseOrder (i : Instr) : .check ∈ phaseOrder i ∧ .finish ∈ phaseOrder i := by
  cases i <;> simp [phaseOrder]

/-- CHECK of a running command: past it with the checks passed, or FINISH next with the error's response. -/
theorem running_checkMove {s : State} {i : Instr} (h : s.Running) (hdec : decode s.RQ.CMD = .ok i) :
    (checkMove i s).Running := by
  obtain ⟨hbuf, hmem, hflight⟩ := h
  rw [hdec] at hflight
  obtain ⟨-, -, hrange⟩ := hflight
  unfold checkMove
  cases hcheck : checkOf i s.RQ with
  | some e =>
    have hreject : (reject e s).InRange i.width i.nOperand i.rOperand :=
      State.InRange.setPH (s := s.setRSP _) hrange (by decide)
    refine ⟨hbuf, hmem, ?_⟩
    rw [reject_RQ, hdec]
    exact ⟨(check_and_finish_mem_phaseOrder i).2, .inr ⟨rfl, e, hcheck, rfl⟩, hreject⟩
  | none =>
    obtain ⟨hRQ, hRSP⟩ := enterWork_request i (passCheck s)
    have hwork : (enterWork i (passCheck s)).Working i :=
      ⟨hRQ ▸ hcheck, by rw [hRSP]; rfl, mem_of_mem_zip_tail (enterWork_PH i _),
        inRange_enterWork i (s := passCheck s) hrange⟩
    exact hwork.running (by rwa [hRQ]) (by rwa [hRQ])

/-- An illegal word is rejected with IllegalCommand, FINISH next. -/
theorem running_reject_illegal {s : State} {x : Reject} (h : s.Running) (hdec : decode s.RQ.CMD = .error x) :
    (reject .illegalCommand s).Running := by
  obtain ⟨hbuf, hmem, -⟩ := h
  refine ⟨hbuf, hmem, ?_⟩
  rw [reject_RQ, hdec]
  exact .inr ⟨rfl, rfl⟩

theorem inv_of_quiet {s : State} (h : s.Quiet) : s.Inv := by
  obtain ⟨hST, -⟩ := id h
  rw [State.Inv, hST]
  exact h

theorem inv_of_running {s : State} (hST : s.ST = .busy) (h : s.Running) : s.Inv := by
  rw [State.Inv, hST]
  exact h

theorem State.Inv.quiet {s : State} (h : s.Inv) (hST : s.ST = .idle) : s.Quiet := by rwa [State.Inv, hST] at h

theorem State.Inv.running {s : State} (h : s.Inv) (hST : s.ST = .busy) : s.Running := by rwa [State.Inv, hST] at h

/-- A move of the sequencer keeps the invariant. -/
theorem inv_tick {s t : State} (hST : s.ST = .busy) (h : s.Running) (htick : tick s = .next t) : t.Inv := by
  obtain ⟨-, ⟨x, hdec⟩, rfl⟩ | ⟨-, i, hdec, rfl⟩ | ⟨-, rsp, rfl⟩ | ⟨i, hdec, hmove⟩ := tick_next_cases htick
  · exact inv_of_running hST (running_reject_illegal h hdec)
  · exact inv_of_running ((sameRun_checkMove s i).1.trans hST) (running_checkMove h hdec)
  · exact inv_of_quiet (quiet_afterResponse s rsp)
  · obtain ⟨hc, hf⟩ := hmove.phase_ne
    obtain ⟨hRQ, -⟩ := hmove.keeps
    have hwork : t.Working i := hmove.working (wf_of_decode hdec) (h.working hdec hc hf)
    refine inv_of_running ((sameRun_workMove hmove.eq_some).1.trans hST) (hwork.running ?_ ?_)
    · rwa [hRQ]
    · rw [hRQ]
      exact h.1

/-- A quiet engine is in range of every command. -/
theorem State.Quiet.inRange {s : State} (h : s.Quiet) (w : Width) (n r : Nat) : s.InRange w n r := by
  obtain ⟨-, hPH, -, hA, hB, hi, hj, hk, hh, hrnd, hL, hS, -⟩ := h
  have hT := tableSize_ge r
  have hcounters : s.CountersInRange w n r := by
    rw [State.CountersInRange, hPH, hi, hj, hk, hh, hrnd]
    exact ⟨Nat.lt_of_lt_of_le Nat.two_pos hT, keyWords_pos w n, Nat.zero_le _, nofun,
      Nat.lt_of_lt_of_le Nat.one_pos (Nat.le_max_left 1 n), Nat.zero_le _⟩
  have hwork : s.WorkInRange w n r := by
    rw [State.WorkInRange, hA, hB, hL, hS]
    exact ⟨isWord_zero w, isWord_zero w, nofun, nofun, Memory.wf_nil _, Memory.wf_nil _⟩
  exact ⟨hcounters, hwork⟩

/-- Acceptance by a quiet engine: CHECK is next and nothing is in use. -/
theorem running_accept {s : State} (h : s.Quiet) : (accept s).Running := by
  obtain ⟨-, -, -, -, -, -, hbuf⟩ := accept_fields s
  obtain ⟨-, -, -, -, -, -, -, -, -, -, hL, hS, hRSP⟩ := id h
  refine ⟨hbuf, ⟨?_, ?_⟩, ?_⟩
  · exact hL ▸ Memory.wf_nil _
  · exact hS ▸ Memory.wf_nil _
  · split
    case h_1 i hdec =>
      obtain ⟨hphase, -⟩ := check_and_finish_mem_phaseOrder i
      have hstatus : (accept s).RSP.STATUS = .ok := congrArg Response.STATUS hRSP
      exact ⟨hphase, .inl ⟨.inl rfl, hstatus⟩, (h.inRange i.width i.nOperand i.rOperand).setPH (p := .check) (by decide)⟩
    case h_2 => exact .inl rfl

/-- The run of a latched word can only complete. -/
theorem exists_eq_afterResponse_of_runCommand {s t : State} (h : runCommand s = .next t) :
    ∃ rsp, t = s.afterResponse rsp := by
  obtain ⟨rsp, hrsp⟩ := runCommand_responds s
  exact ⟨rsp, Host.Outcome.next.inj (h.symm.trans hrsp)⟩

/-- Settles O54: acceptance starts from a quiet engine; a reset and a completion leave one; a drive touches no part of
the invariant; and a move of the sequencer keeps it phase by phase. -/
theorem everyStepKeepsTheInvariant : Obligations.EveryStepKeepsTheInvariant := by
  intro s t hs h
  obtain ⟨-, hST, rfl⟩ | ⟨-, rfl⟩ | ⟨rq, rfl⟩ | ⟨hST, ⟨-, hrun⟩ | htick⟩ := step_cases h
  · exact inv_of_running rfl (running_accept (s := s.afterTurn) (hs.quiet hST))
  · exact inv_of_quiet (quiet_clearEngine _)
  · exact hs
  · obtain ⟨rsp, rfl⟩ := exists_eq_afterResponse_of_runCommand hrun
    exact inv_of_quiet (quiet_afterResponse _ rsp)
  · exact inv_tick (s := s.afterTurn) hST (hs.running hST) htick

/-- Settles O53: the reset state is quiet. -/
theorem theResetStateMeetsTheInvariant : Obligations.TheResetStateMeetsTheInvariant :=
  inv_of_quiet (quiet_clearEngine State.reset)

/-! ### Steps always go on -/

/-- A command has a move in each of its phases between CHECK and FINISH. -/
theorem exists_workMove {i : Instr} {s : State} (h : s.PH ∈ phaseOrder i) (hc : s.PH ≠ .check) (hf : s.PH ≠ .finish) :
    ∃ t, WorkMove i s t := by
  cases i with
  | expkey w n r =>
    simp only [phaseOrder, List.mem_cons, List.not_mem_nil, or_false] at h
    obtain hph | hph | hph | hph | hph := h
    · exact absurd hph hc
    · exact ⟨_, .pack rfl hph⟩
    · exact ⟨_, .init rfl hph⟩
    · exact ⟨_, .mix rfl hph⟩
    · exact absurd hph hf
  | enc w n r =>
    simp only [phaseOrder, List.mem_cons, List.not_mem_nil, or_false] at h
    obtain hph | hph | hph | hph | hph | hph | hph := h
    · exact absurd hph hc
    · exact ⟨_, .pack rfl hph⟩
    · exact ⟨_, .init rfl hph⟩
    · exact ⟨_, .mix rfl hph⟩
    · exact ⟨_, .pre rfl hph⟩
    · exact ⟨_, .encRounds rfl hph⟩
    · exact absurd hph hf
  | dec w n r =>
    simp only [phaseOrder, List.mem_cons, List.not_mem_nil, or_false] at h
    obtain hph | hph | hph | hph | hph | hph | hph := h
    · exact absurd hph hc
    · exact ⟨_, .pack rfl hph⟩
    · exact ⟨_, .init rfl hph⟩
    · exact ⟨_, .mix rfl hph⟩
    · exact ⟨_, .decRounds rfl hph⟩
    · exact ⟨_, .post rfl hph⟩
    · exact absurd hph hf
  | _ =>
    simp only [phaseOrder, List.mem_cons, List.not_mem_nil, or_false] at h
    obtain hph | hph | hph := h
    · exact absurd hph hc
    · exact ⟨_, .exec rfl hph⟩
    · exact absurd hph hf

/-- CHECK and FINISH always have a next state, whatever the latched word is. -/
theorem tick_goes_of_check_or_finish {s : State} (h : s.PH = .check ∨ s.PH = .finish) : ∃ t, tick s = .next t := by
  obtain hph | hph := h
  · cases hdec : decode s.RQ.CMD with
    | error x => exact ⟨_, tick_check_of_error hph hdec⟩
    | ok i => exact ⟨checkMove i s, by simp only [tick, hph, hdec]⟩
  · obtain ⟨rsp, htick, -⟩ := tick_finish_responds hph
    exact ⟨_, htick⟩

/-- A running engine always has a next state. -/
theorem State.Running.tick_goes {s : State} (h : s.Running) : ∃ t, tick s = .next t := by
  by_cases hph : s.PH = .check ∨ s.PH = .finish
  · exact tick_goes_of_check_or_finish hph
  · obtain ⟨hc, hf⟩ := not_or.1 hph
    cases hdec : decode s.RQ.CMD with
    | error x =>
      obtain ⟨-, -, hflight⟩ := h
      rw [hdec] at hflight
      exact absurd (hflight.imp_right And.left) hph
    | ok i =>
      obtain ⟨t, hmove⟩ := exists_workMove (h.working hdec hc hf).phase hc hf
      exact ⟨t, hmove.tick_eq hdec⟩

/-- Settles O55: a host's turn always has a next state, an idle engine waits, and a BUSY one is running. -/
theorem noStepFromTheInvariantStops : Obligations.NoStepFromTheInvariantStops := by
  intro s hs
  unfold State.Goes
  rw [step_eq_takeTurn]
  cases hST : s.ST with
  | idle => cases s.agenda.headD .engine <;> simp [takeTurn, engineMove, phaseMove, hST]
  | busy =>
    have hrun : s.afterTurn.Running := hs.running hST
    cases s.agenda.headD .engine with
    | present | drive | reset => exact ⟨_, rfl⟩
    | engine =>
      obtain ⟨rsp, hrsp⟩ := runCommand_responds s.afterTurn
      simp only [takeTurn, engineMove, State.afterTurn_ST, hST]
      split_ifs
      · exact ⟨_, hrsp⟩
      · exact hrun.tick_goes
    | phase =>
      simp only [takeTurn, phaseMove, State.afterTurn_ST, hST]
      exact hrun.tick_goes

/-- Settles O52: a reset and a completion leave a quiet engine, a drive touches no element of it, and every other step
leaves it BUSY. -/
theorem anIdleEngineStaysZero : Obligations.AnIdleEngineStaysZero := by
  refine ⟨quiet_clearEngine State.reset, fun s t hs h hidle => ?_⟩
  obtain ⟨-, -, rfl⟩ | ⟨-, rfl⟩ | ⟨rq, rfl⟩ | ⟨hST, ⟨-, hrun⟩ | htick⟩ := step_cases h
  · cases hidle
  · exact quiet_clearEngine _
  · exact hs hidle
  · obtain ⟨rsp, rfl⟩ := exists_eq_afterResponse_of_runCommand hrun
    exact quiet_afterResponse _ rsp
  · obtain ⟨rsp, rfl⟩ | ⟨hsame, -⟩ := tick_cases htick
    · exact quiet_afterResponse _ rsp
    · cases hidle.symm.trans (hsame.trans hST)

end Sys2Proof.Machine
end

section
/-!
SUPPORT. The sequencer move by move (70_reset_and_hazards.md R215, R220): how many moves each phase takes and the state
it ends in, put together to the whole command.
-/

namespace Sys2Proof.Machine

/-! ### Several moves -/

theorem ticks_succ {s t : State} (h : tick s = .next t) (count : Nat) : ticks (count + 1) s = ticks count t := by
  simp only [ticks, h]

theorem ticks_one (s : State) : ticks 1 s = tick s := by
  simp only [ticks]
  cases tick s <;> rfl

/-- Moves one after the other. -/
theorem ticks_trans {s t : State} {a b : Nat} {res : Result} (h : ticks a s = .next t) (h' : ticks b t = res) :
    ticks (a + b) s = res := by
  induction a generalizing s with
  | zero =>
    cases h
    rwa [Nat.zero_add]
  | succ a ih =>
    simp only [ticks] at h
    split at h
    case h_1 u hu => rw [Nat.succ_add, ticks_succ hu, ih h]
    case h_2 | h_3 => cases h

/-- A phase that repeats the iteration `f`, and leaves by `leave` in the move of its last iteration. -/
theorem ticks_loop {f leave : State → State} {s : State} {count : Nat}
    (hgo : ∀ m < count, tick (f^[m] s) = .next (f^[m + 1] s))
    (hlast : tick (f^[count] s) = .next (leave (f^[count + 1] s))) :
    ticks (count + 1) s = .next (leave (f^[count + 1] s)) := by
  have hall : ∀ m ≤ count, ticks m s = .next (f^[m] s) := by
    intro m hm
    induction m with
    | zero => rfl
    | succ m ih => exact ticks_trans (ih (Nat.le_of_succ_le hm)) ((ticks_one _).trans (hgo m hm))
  exact ticks_trans (hall count le_rfl) ((ticks_one _).trans hlast)

/-! ### The index of each loop -/

section
variable (w : Width) (n r : Nat) {s : State}

theorem packIter_iterate_h (m : Nat) : ((packIter w)^[m] s).h.val = s.h.val - m := by
  induction m with
  | zero => rfl
  | succ m ih => rw [Function.iterate_succ_apply', packIter_h, ih, Nat.sub_sub]

theorem initIter_iterate_i {r : Nat} (hr : r ≤ 255) (m : Nat) (h : s.i.val + m < tableSize r) :
    ((initIter w r)^[m] s).i.val = s.i.val + m := by
  induction m with
  | zero => rfl
  | succ m ih =>
    have hidx := ih (by omega)
    have hT := tableSize_le hr
    rw [Function.iterate_succ_apply']
    simp only [initIter, State.setI_i, hidx]
    rw [if_pos (by omega)]
    exact Nat.mod_eq_of_lt (by omega)

theorem mixIter_iterate_k (m : Nat) (h : s.k.val + m ≤ 1536) : ((mixIter w n r)^[m] s).k.val = s.k.val + m := by
  induction m with
  | zero => rfl
  | succ m ih =>
    have hidx := ih (by omega)
    rw [Function.iterate_succ_apply', mixIter_k w n r (by omega), hidx]
    rfl

theorem encRound_iterate_rnd {r : Nat} (hr : r ≤ 255) (m : Nat) (h : s.rnd.val + m ≤ r) :
    ((encRound w r)^[m] s).rnd.val = s.rnd.val + m := by
  induction m with
  | zero => rfl
  | succ m ih =>
    have hidx := ih (by omega)
    rw [Function.iterate_succ_apply']
    simp only [encRound, State.setRnd_rnd, hidx]
    rw [if_pos (by omega)]
    exact Nat.mod_eq_of_lt (by omega)

theorem decRound_iterate_rnd (m : Nat) (h : m < s.rnd.val) : ((decRound w)^[m] s).rnd.val = s.rnd.val - m := by
  induction m with
  | zero => rfl
  | succ m ih =>
    have hidx := ih (by omega)
    rw [Function.iterate_succ_apply']
    simp only [decRound, State.setRnd_rnd, hidx]
    rw [if_pos (by omega)]
    exact Nat.mod_eq_of_lt (by omega)

end

/-! ### The phases of a command -/

/-- The latched word spells `i` and the sequencer is in phase `p`. -/
structure State.AtPhase (s : State) (i : Instr) (p : Phase) : Prop where
  phase : s.PH = p
  word : decode s.RQ.CMD = .ok i

/-- An iteration of a loop keeps the phase and the word, so any number of them does. -/
theorem State.AtPhase.iterate {s : State} {i : Instr} {p : Phase} (h : s.AtPhase i p) {f : State → State}
    (hPH : ∀ t, (f t).PH = t.PH) (hRQ : ∀ t, (f t).RQ = t.RQ) (m : Nat) : (f^[m] s).AtPhase i p := by
  obtain ⟨hph, hdec⟩ := h
  exact ⟨(iterate_keeps f State.PH hPH m s).trans hph, by rwa [iterate_keeps f State.RQ hRQ m s]⟩

section
variable {i : Instr} {s : State}

/-- PACK, from its entry to the entry of INIT: a move for each key byte, or one move with none. -/
theorem ticks_pack (hi : i.isKeyed = true) (h : s.AtPhase i .pack) (hh : s.h.val = i.nOperand - 1) :
    ticks (max 1 i.nOperand) s = .next (enterInit i.width ((packIter i.width)^[i.nOperand] s)) := by
  have hmove : ∀ m, tick ((packIter i.width)^[m] s) =
      .next (packMove i.width i.nOperand ((packIter i.width)^[m] s)) := fun m => by
    obtain ⟨hph, hdec⟩ := h.iterate (packIter_PH i.width) (packIter_RQ i.width) m
    exact (WorkMove.pack hi hph).tick_eq hdec
  have hidx := packIter_iterate_h i.width (s := s)
  cases hn : i.nOperand with
  | zero =>
    rw [Nat.max_zero, ticks_one]
    exact (hmove 0).trans (congrArg _ (if_pos hn))
  | succ n =>
    rw [Nat.max_eq_right (Nat.succ_pos n)]
    refine ticks_loop (fun m hm => ?_) ?_
    · rw [hmove, packMove, if_neg (by omega), if_neg (by rw [hidx]; omega), Function.iterate_succ_apply']
    · rw [hmove, packMove, if_neg (by omega), if_pos (by rw [hidx]; omega), Function.iterate_succ_apply']

/-- INIT, from its entry to the entry of MIX. -/
theorem ticks_init (hi : i.isKeyed = true) (hr : i.rOperand ≤ 255) (h : s.AtPhase i .init) (hidx : s.i.val = 1) :
    ticks (tableSize i.rOperand - 1) s =
      .next (enterMix ((initIter i.width i.rOperand)^[tableSize i.rOperand - 1] s)) := by
  have hmove : ∀ m, tick ((initIter i.width i.rOperand)^[m] s) =
      .next (initMove i.width i.rOperand ((initIter i.width i.rOperand)^[m] s)) := fun m => by
    obtain ⟨hph, hdec⟩ := h.iterate (initIter_PH i.width i.rOperand) (initIter_RQ i.width i.rOperand) m
    exact (WorkMove.init hi hph).tick_eq hdec
  have hi' : ∀ m, 1 + m < tableSize i.rOperand → ((initIter i.width i.rOperand)^[m] s).i.val = 1 + m := fun m hm =>
    (initIter_iterate_i i.width hr m (by rwa [hidx])).trans (by rw [hidx])
  obtain ⟨last, hlast⟩ := Nat.exists_eq_add_of_le' (tableSize_ge i.rOperand)
  rw [show tableSize i.rOperand - 1 = last + 1 by omega]
  refine ticks_loop (fun m hm => ?_) ?_
  · rw [hmove, initMove, if_pos (by rw [hi' m (by omega)]; omega), Function.iterate_succ_apply']
  · rw [hmove, initMove, if_neg (by rw [hi' last (by omega)]; omega), Function.iterate_succ_apply']

/-- MIX, from its entry to the entry of the phase after it. -/
theorem ticks_mix (hi : i.isKeyed = true) (hn : i.nOperand ≤ 255) (hr : i.rOperand ≤ 255) (h : s.AtPhase i .mix)
    (hidx : s.k.val = 0) :
    ticks (mixCount i.width i.nOperand i.rOperand) s =
      .next (leaveMix i ((mixIter i.width i.nOperand i.rOperand)^[mixCount i.width i.nOperand i.rOperand] s)) := by
  have hmove : ∀ m, tick ((mixIter i.width i.nOperand i.rOperand)^[m] s) =
      .next (mixMove i.width i.nOperand i.rOperand (leaveMix i) ((mixIter i.width i.nOperand i.rOperand)^[m] s)) :=
    fun m => by
      obtain ⟨hph, hdec⟩ := h.iterate (mixIter_PH i.width i.nOperand i.rOperand) (mixIter_RQ _ _ _) m
      exact (WorkMove.mix hi hph).tick_eq hdec
  have hbound := mixCount_le hn hr i.width
  have hk : ∀ m ≤ 1536, ((mixIter i.width i.nOperand i.rOperand)^[m] s).k.val = m := fun m hm =>
    (mixIter_iterate_k i.width i.nOperand i.rOperand m (by omega)).trans (by omega)
  obtain ⟨last, hlast⟩ := Nat.exists_eq_add_of_le' (mixCount_pos i.width i.nOperand i.rOperand)
  rw [hlast]
  refine ticks_loop (fun m hm => ?_) ?_
  · rw [hmove, mixMove, if_pos (by rw [hk m (by omega)]; omega), Function.iterate_succ_apply']
  · rw [hmove, mixMove, if_neg (by rw [hk last (by omega)]; omega), Function.iterate_succ_apply']

end

section
variable {w : Width} {n r : Nat} {s : State}

/-- ROUNDS of ENC, from its entry to FINISH: a move for each round, or one move with none. -/
theorem ticks_encRounds (hr : r ≤ 255) (h : s.AtPhase (.enc w n r) .rounds) (hidx : s.rnd.val = 1) :
    ticks (max 1 r) s = .next ((encRounds w r s).setPH .finish) := by
  have hmove : ∀ m, tick ((encRound w r)^[m] s) = .next (encMove w r ((encRound w r)^[m] s)) := fun m => by
    obtain ⟨hph, hdec⟩ := h.iterate (encRound_PH w r) (encRound_RQ w r) m
    exact (WorkMove.encRounds rfl hph).tick_eq hdec
  unfold encRounds
  cases r with
  | zero => exact (ticks_one s).trans (hmove 0)
  | succ r =>
    have hrnd : ∀ m ≤ r, ((encRound w (r + 1))^[m] s).rnd.val = m + 1 := fun m hm =>
      (encRound_iterate_rnd w hr m (by omega)).trans (by omega)
    rw [Nat.max_eq_right (Nat.succ_pos r)]
    refine ticks_loop (leave := fun t => t.setPH .finish) (fun m hm => ?_) ?_
    · rw [hmove, encMove, if_neg (by omega), if_pos (by rw [hrnd m (by omega)]; omega), Function.iterate_succ_apply']
    · rw [hmove, encMove, if_neg (by omega), if_neg (by rw [hrnd r le_rfl]; omega), Function.iterate_succ_apply']

/-- ROUNDS of DEC, from its entry to POST: a move for each round, or one move with none. -/
theorem ticks_decRounds (h : s.AtPhase (.dec w n r) .rounds) (hidx : s.rnd.val = r) :
    ticks (max 1 r) s = .next ((decRounds w r s).setPH .post) := by
  have hmove : ∀ m, tick ((decRound w)^[m] s) = .next (decMove w r ((decRound w)^[m] s)) := fun m => by
    obtain ⟨hph, hdec⟩ := h.iterate (decRound_PH w) (decRound_RQ w) m
    exact (WorkMove.decRounds rfl hph).tick_eq hdec
  unfold decRounds
  cases r with
  | zero => exact (ticks_one s).trans (hmove 0)
  | succ r =>
    have hrnd : ∀ m ≤ r, ((decRound w)^[m] s).rnd.val = r + 1 - m := fun m hm =>
      (decRound_iterate_rnd w m (by omega)).trans (by omega)
    rw [Nat.max_eq_right (Nat.succ_pos r)]
    refine ticks_loop (leave := fun t => t.setPH .post) (fun m hm => ?_) ?_
    · rw [hmove, decMove, if_neg (by omega), if_pos (by rw [hrnd m (by omega)]; omega), Function.iterate_succ_apply']
    · rw [hmove, decMove, if_neg (by omega), if_neg (by rw [hrnd r le_rfl]; omega), Function.iterate_succ_apply']

end

/-! ### Whole commands -/

section
variable {i : Instr} {s : State}

/-- The key schedule, from the entry of PACK to the entry of the phase after MIX. -/
theorem ticks_keySchedule (hi : i.isKeyed = true) (hn : i.nOperand ≤ 255) (hr : i.rOperand ≤ 255)
    (hdec : decode s.RQ.CMD = .ok i) :
    ticks (max 1 i.nOperand + (tableSize i.rOperand - 1 + mixCount i.width i.nOperand i.rOperand))
        (enterPack i.width i.nOperand s) =
      .next (leaveMix i (keySchedule i.width i.nOperand i.rOperand s)) := by
  have hpack := ticks_pack (s := enterPack i.width i.nOperand s) hi ⟨rfl, hdec⟩ (Nat.mod_eq_of_lt (by omega))
  have hinit := ticks_init (s := enterInit i.width (packPhase i.width i.nOperand s)) hi hr ⟨rfl, by simpa⟩ rfl
  have hmix := ticks_mix (s := enterMix (initPhase i.width i.rOperand (packPhase i.width i.nOperand s))) hi hn hr
    ⟨rfl, by simpa⟩ rfl
  exact ticks_trans hpack (ticks_trans hinit hmix)

/-- CHECK of a command whose checks pass enters its second phase. -/
theorem tick_check_of_pass (hph : s.PH = .check) (hdec : decode s.RQ.CMD = .ok i) (hcheck : checkOf i s.RQ = none) :
    tick s = .next (enterWork i (passCheck s)) := by
  simp only [tick, hph, hdec, checkMove, hcheck]

/-- FINISH of a command whose checks passed builds its response and completes. -/
theorem tick_finish (hdec : decode s.RQ.CMD = .ok i) (hph : s.PH = .finish) :
    tick s = .next (complete (buildResponse i s)) := by
  simp only [tick, hph, hdec]

end

section
variable {w : Width} {n r : Nat} {s : State}

/-- EXPKEY from the entry of PACK to its completion. -/
theorem ticks_expkey (hn : n ≤ 255) (hr : r ≤ 255) (hdec : decode s.RQ.CMD = .ok (.expkey w n r))
    (hok : s.RSP.STATUS = .ok) :
    ticks (max 1 n + (tableSize r - 1 + mixCount w n r) + 1) (enterPack w n s) =
      .next (complete (expkeyWork w n r s)) := by
  have hkey := ticks_keySchedule (i := .expkey w n r) rfl hn hr hdec
  have hfinish := tick_finish (s := (keySchedule w n r s).setPH .finish) (by simpa) rfl
  rw [buildResponse, if_pos (by simpa)] at hfinish
  exact ticks_trans hkey ((ticks_one _).trans hfinish)

/-- ENC from the entry of PACK to its completion. -/
theorem ticks_enc (hn : n ≤ 255) (hr : r ≤ 255) (hdec : decode s.RQ.CMD = .ok (.enc w n r))
    (hok : s.RSP.STATUS = .ok) :
    ticks (max 1 n + (tableSize r - 1 + mixCount w n r) + (1 + (max 1 r + 1))) (enterPack w n s) =
      .next (complete (encWork w n r s)) := by
  have hkey := ticks_keySchedule (i := .enc w n r) rfl hn hr hdec
  have hpre : ticks 1 ((keySchedule w n r s).setPH .pre) = .next (prePhase w ((keySchedule w n r s).setPH .pre)) :=
    (ticks_one _).trans ((WorkMove.pre (i := .enc w n r) rfl rfl).tick_eq (by simpa))
  have hrounds := ticks_encRounds (s := prePhase w ((keySchedule w n r s).setPH .pre)) (n := n) hr ⟨rfl, by simpa⟩ rfl
  have hfinish := tick_finish (i := .enc w n r)
    (s := (encRounds w r (prePhase w ((keySchedule w n r s).setPH .pre))).setPH .finish) (by simpa) rfl
  rw [buildResponse, if_pos (by simpa)] at hfinish
  exact ticks_trans hkey (ticks_trans hpre (ticks_trans hrounds ((ticks_one _).trans hfinish)))

/-- DEC from the entry of PACK to its completion. -/
theorem ticks_dec (hn : n ≤ 255) (hr : r ≤ 255) (hdec : decode s.RQ.CMD = .ok (.dec w n r))
    (hok : s.RSP.STATUS = .ok) :
    ticks (max 1 n + (tableSize r - 1 + mixCount w n r) + (max 1 r + (1 + 1))) (enterPack w n s) =
      .next (complete (decWork w n r s)) := by
  have hkey := ticks_keySchedule (i := .dec w n r) rfl hn hr hdec
  have hrounds := ticks_decRounds (s := enterDecRounds w r (keySchedule w n r s)) (n := n) ⟨rfl, by simpa⟩
    (Nat.mod_eq_of_lt (by omega))
  have hpost : ticks 1 ((decRounds w r (enterDecRounds w r (keySchedule w n r s))).setPH .post) =
      .next (postPhase w ((decRounds w r (enterDecRounds w r (keySchedule w n r s))).setPH .post)) :=
    (ticks_one _).trans ((WorkMove.post (i := .dec w n r) rfl rfl).tick_eq (by simpa))
  have hfinish := tick_finish (i := .dec w n r)
    (s := postPhase w ((decRounds w r (enterDecRounds w r (keySchedule w n r s))).setPH .post)) (by simpa) rfl
  rw [buildResponse, if_pos (by simpa)] at hfinish
  exact ticks_trans hkey (ticks_trans hrounds (ticks_trans hpost ((ticks_one _).trans hfinish)))

end

/-- How many moves a command takes after CHECK (70_reset_and_hazards.md Table R221-a). -/
def workMoves : Instr → Nat
  | .expkey w n r => max 1 n + (tableSize r - 1 + mixCount w n r) + 1
  | .enc w n r => max 1 n + (tableSize r - 1 + mixCount w n r) + (1 + (max 1 r + 1))
  | .dec w n r => max 1 n + (tableSize r - 1 + mixCount w n r) + (max 1 r + (1 + 1))
  | _ => 1 + 1

theorem commandMoves_eq (i : Instr) : commandMoves i = 1 + workMoves i := by
  cases i <;>
    simp [commandMoves, workMoves, phaseOrder, phaseMoves, Instr.nOperand, Instr.rOperand, Instr.width, Nat.add_assoc]

/-- EXEC and FINISH of a command without a key schedule. -/
theorem ticks_exec {i : Instr} {s : State} (hi : i.isKeyed = false) (hdec : decode s.RQ.CMD = .ok i)
    (hph : s.PH = .exec) : ticks (1 + 1) s = .next (complete (commandWork i s)) := by
  have hmove := WorkMove.exec hi hph
  have hfinish := tick_finish (i := i) (s := commandWork i s) (hmove.keeps.1 ▸ hdec) (commandWork_PH i s)
  have hbuild : buildResponse i (commandWork i s) = commandWork i s := by
    cases i with
    | expkey | enc | dec => cases hi
    | _ => exact if_pos rfl
  rw [hbuild] at hfinish
  exact ticks_trans ((ticks_one s).trans (hmove.tick_eq hdec)) ((ticks_one _).trans hfinish)

/-- A command that passes CHECK completes in the moves of its phases with what its work built. -/
theorem ticks_commandMoves {i : Instr} {s : State} (hph : s.PH = .check) (hdec : decode s.RQ.CMD = .ok i)
    (hcheck : checkOf i s.RQ = none) : ticks (commandMoves i) s = .next (complete (commandWork i (passCheck s))) := by
  have hn : i.nOperand ≤ 255 := Instr.nOperand_le (wf_of_decode hdec)
  have hr : i.rOperand ≤ 255 := ((checkOf_eq_none_iff i s.RQ).1 hcheck).2
  rw [commandMoves_eq]
  refine ticks_trans ((ticks_one s).trans (tick_check_of_pass hph hdec hcheck)) ?_
  have hexec := ticks_exec (i := i) (s := (passCheck s).setPH .exec)
  cases i with
  | expkey w n r => exact ticks_expkey hn hr hdec rfl
  | enc w n r => exact ticks_enc hn hr hdec rfl
  | dec w n r => exact ticks_dec hn hr hdec rfl
  | _ => exact hexec rfl hdec rfl

/-- Error entry and FINISH, from CHECK on. -/
theorem ticks_of_reject {s : State} {e : Status} (he : e ≠ .ok) (h : tick s = .next (reject e s)) :
    ticks 2 s = .next (s.afterResponse (Response.error e)) :=
  ticks_trans ((ticks_one s).trans h) ((ticks_one _).trans (tick_reject s he))

/-- Settles O47: a failing check is error entry and FINISH; else the phases, each in its number of moves, compose to
the command's work, and completion forgets all but the response. -/
theorem phaseByPhaseAnswersWhatTheWholeCommandAnswers :
    Obligations.PhaseByPhaseAnswersWhatTheWholeCommandAnswers := by
  rintro s i ⟨-, hph⟩ hdec
  refine ⟨fun hcheck => ?_, fun hfail => ?_⟩
  · rw [ticks_commandMoves hph hdec hcheck, exec_eq_command, hcheck]
    rfl
  · obtain ⟨e, hcheck⟩ := Option.ne_none_iff_exists'.1 hfail
    rw [exec_of_checkOf_some hcheck]
    exact ticks_of_reject (ne_ok_of_checkOf_some hcheck) (tick_check_of_checkOf_some hph hdec hcheck)

/-- With counts in range a command takes at most 2560 moves: the sum of the bounds of its phases. -/
theorem commandMoves_le {i : Instr} (hn : i.nOperand ≤ 255) (hr : i.rOperand ≤ 255) : commandMoves i ≤ 2560 := by
  rw [commandMoves_eq]
  cases i with
  | expkey w n r | enc w n r | dec w n r =>
    have hT := tableSize_le hr
    have hmix := mixCount_le hn hr w
    simp only [Instr.nOperand, Instr.rOperand, workMoves] at hn hr hT hmix ⊢
    omega
  | _ => exact Nat.le_of_ble_eq_true rfl

/-- Settles O48: an illegal word and a failing check take two moves, and a command that passes CHECK the moves of its
phases, each bounded. -/
theorem everyAcceptedCommandCompletes : Obligations.EveryAcceptedCommandCompletes := by
  refine ⟨fun i hi hr => ?_, fun s hs => ?_⟩
  · have hn := Instr.nOperand_le hi
    exact ⟨hn, tableSize_le hr, mixCount_le hn hr i.width⟩
  · obtain ⟨-, hph⟩ := id hs
    cases hdec : decode s.RQ.CMD with
    | error x => exact ⟨2, by decide, _, ticks_of_reject (by decide) (tick_check_of_error hph hdec)⟩
    | ok i =>
      obtain ⟨rsp, hexec⟩ := exec_responds i s
      obtain ⟨hpass, hfail⟩ := phaseByPhaseAnswersWhatTheWholeCommandAnswers s i hs hdec
      by_cases hcheck : checkOf i s.RQ = none
      · have hr : i.rOperand ≤ 255 := ((checkOf_eq_none_iff i s.RQ).1 hcheck).2
        exact ⟨commandMoves i, commandMoves_le (Instr.nOperand_le (wf_of_decode hdec)) hr, rsp,
          (hpass hcheck).trans hexec⟩
      · exact ⟨2, by decide, rsp, (hfail hcheck).trans hexec⟩

/-! ### Control flow (10_state.md R36) -/

/-- The counter that a looping phase compares with its bound. -/
def loopCounter : Phase → State → Nat
  | .pack, s => s.h.val
  | .init, s => s.i.val
  | .mix, s => s.k.val
  | .rounds, s => s.rnd.val
  | _, _ => 0

/-- What decides the next phase: the phase and its counter. -/
structure SameControl (s s' : State) : Prop where
  phase : s.PH = s'.PH
  counter : loopCounter s.PH s = loopCounter s.PH s'

section
variable {w : Width} {n r : Nat} {s s' : State} {p : Phase}

theorem SameControl.at_phase (h : SameControl s s') (hph : s.PH = p) :
    s'.PH = p ∧ loopCounter p s = loopCounter p s' := hph ▸ ⟨h.phase.symm, h.counter⟩

theorem sameControl_of_phase (hph : s.PH = p) (hph' : s'.PH = p) (h : loopCounter p s = loopCounter p s') :
    SameControl s s' := ⟨hph.trans hph'.symm, hph ▸ h⟩

theorem sameControl_packMove (hph : s.PH = .pack) (h : SameControl s s') :
    SameControl (packMove w n s) (packMove w n s') := by
  obtain ⟨hph', hcounter⟩ := h.at_phase hph
  change s.h.val = s'.h.val at hcounter
  unfold packMove
  rw [hcounter]
  split_ifs
  · exact ⟨rfl, rfl⟩
  · exact ⟨rfl, rfl⟩
  · exact sameControl_of_phase (p := .pack) hph hph' (by simp only [loopCounter, packIter_h, hcounter])

theorem sameControl_initMove (hph : s.PH = .init) (h : SameControl s s') :
    SameControl (initMove w r s) (initMove w r s') := by
  obtain ⟨hph', hcounter⟩ := h.at_phase hph
  change s.i.val = s'.i.val at hcounter
  unfold initMove
  rw [hcounter]
  split_ifs
  · exact sameControl_of_phase (p := .init) hph hph' (by
      simp only [loopCounter, initIter, State.setI_i, Fin.ext hcounter])
  · exact ⟨rfl, rfl⟩

theorem sameControl_leaveMix (i : Instr) (s s' : State) : SameControl (leaveMix i s) (leaveMix i s') := by
  cases i <;> exact ⟨rfl, rfl⟩

theorem sameControl_mixMove (i : Instr) (hph : s.PH = .mix) (h : SameControl s s') :
    SameControl (mixMove w n r (leaveMix i) s) (mixMove w n r (leaveMix i) s') := by
  obtain ⟨hph', hcounter⟩ := h.at_phase hph
  change s.k.val = s'.k.val at hcounter
  unfold mixMove
  rw [hcounter]
  split_ifs
  · exact sameControl_of_phase (p := .mix) (by simpa) (by simpa) (by simp only [loopCounter, mixIter_k_eq, hcounter])
  · exact sameControl_leaveMix i _ _

theorem sameControl_encMove (hph : s.PH = .rounds) (h : SameControl s s') :
    SameControl (encMove w r s) (encMove w r s') := by
  obtain ⟨hph', hcounter⟩ := h.at_phase hph
  change s.rnd.val = s'.rnd.val at hcounter
  unfold encMove
  rw [hcounter]
  split_ifs
  · exact ⟨rfl, rfl⟩
  · exact sameControl_of_phase (p := .rounds) hph hph' (by
      simp only [loopCounter, encRound, State.setRnd_rnd, Fin.ext hcounter])
  · exact ⟨rfl, rfl⟩

theorem sameControl_decMove (hph : s.PH = .rounds) (h : SameControl s s') :
    SameControl (decMove w r s) (decMove w r s') := by
  obtain ⟨hph', hcounter⟩ := h.at_phase hph
  change s.rnd.val = s'.rnd.val at hcounter
  unfold decMove
  rw [hcounter]
  split_ifs
  · exact ⟨rfl, rfl⟩
  · exact sameControl_of_phase (p := .rounds) hph hph' (by
      simp only [loopCounter, decRound, State.setRnd_rnd, Fin.ext hcounter])
  · exact ⟨rfl, rfl⟩

end

/-- The phase and its counter alone decide the phase and its counter after a move of the work. -/
theorem WorkMove.sameControl {i : Instr} {s s' t t' : State} (hmove : WorkMove i s t) (hmove' : WorkMove i s' t')
    (h : SameControl s s') : SameControl t t' := by
  have hunique : ∀ {u}, WorkMove i s' u → u = t' := fun hu => Option.some.inj (hu.eq_some.symm.trans hmove'.eq_some)
  have hph' := h.phase
  cases hmove with
  | exec hi hph =>
    rw [← hunique (.exec hi (hph' ▸ hph))]
    exact sameControl_of_phase (commandWork_PH i s) (commandWork_PH i s') rfl
  | pack hi hph => exact hunique (.pack hi (hph' ▸ hph)) ▸ sameControl_packMove hph h
  | init hi hph => exact hunique (.init hi (hph' ▸ hph)) ▸ sameControl_initMove hph h
  | mix hi hph => exact hunique (.mix hi (hph' ▸ hph)) ▸ sameControl_mixMove i hph h
  | pre hi hph => exact hunique (.pre hi (hph' ▸ hph)) ▸ ⟨rfl, rfl⟩
  | encRounds hi hph => exact hunique (.encRounds hi (hph' ▸ hph)) ▸ sameControl_encMove hph h
  | decRounds hi hph => exact hunique (.decRounds hi (hph' ▸ hph)) ▸ sameControl_decMove hph h
  | post hi hph => exact hunique (.post hi (hph' ▸ hph)) ▸ ⟨rfl, rfl⟩

/-- Two states past CHECK with the same command word, in the same phase with the same counter. -/
structure InStep (s s' : State) : Prop where
  word : s.RQ.CMD = s'.RQ.CMD
  control : SameControl s s'
  past : s.PH ≠ .check

/-- No move between CHECK and FINISH goes back to CHECK. -/
theorem WorkMove.ne_check {i : Instr} {s t : State} (h : WorkMove i s t) : t.PH ≠ .check := by
  have htail : .check ∉ (phaseOrder i).tail := by cases i <;> simp [phaseOrder]
  obtain ⟨hsame, -⟩ | hnext := h.phase_next
  · rw [hsame]
    exact h.phase_ne.1
  · exact fun e => htail (e ▸ (List.of_mem_zip hnext).2)

/-- Past CHECK two states in step stay so. -/
theorem InStep.tick {s s' t t' : State} (h : InStep s s') (ht : tick s = .next t) (ht' : tick s' = .next t') :
    InStep t t' := by
  obtain ⟨hword, hcontrol, hpast⟩ := h
  have hph := hcontrol.phase
  obtain ⟨hc, -⟩ | ⟨hc, -⟩ | ⟨hf, rsp, rfl⟩ | ⟨i, hdec, hmove⟩ := tick_next_cases ht
  · exact absurd hc hpast
  · exact absurd hc hpast
  · obtain ⟨rsp', htick', -⟩ := tick_finish_responds (hph ▸ hf)
    cases ht'.symm.trans htick'
    exact ⟨rfl, ⟨rfl, rfl⟩, nofun⟩
  · obtain ⟨hc, hf⟩ := hph ▸ hmove.phase_ne
    obtain ⟨hc', -⟩ | ⟨hc', -⟩ | ⟨hf', -⟩ | ⟨i', hdec', hmove'⟩ := tick_next_cases ht'
    · exact absurd hc' hc
    · exact absurd hc' hc
    · exact absurd hf' hf
    · rw [hword] at hdec
      cases hdec.symm.trans hdec'
      exact ⟨by rw [hmove.keeps.1, hmove'.keeps.1, hword], hmove.sameControl hmove' hcontrol, hmove.ne_check⟩

theorem exists_tick_of_ticks_succ {s t : State} {count : Nat} (h : ticks (count + 1) s = .next t) :
    ∃ u, tick s = .next u ∧ ticks count u = .next t := by
  simp only [ticks] at h
  split at h
  case h_1 u hu => exact ⟨u, hu, h⟩
  case h_2 | h_3 => cases h

theorem InStep.ticks {s s' t t' : State} (h : InStep s s') (count : Nat) (ht : ticks count s = .next t)
    (ht' : ticks count s' = .next t') : InStep t t' := by
  induction count generalizing s s' with
  | zero =>
    cases ht
    cases ht'
    exact h
  | succ count ih =>
    obtain ⟨u, hu, ht⟩ := exists_tick_of_ticks_succ ht
    obtain ⟨u', hu', ht'⟩ := exists_tick_of_ticks_succ ht'
    exact ih (h.tick hu hu') ht ht'

/-- Two requests for one command that pass CHECK enter its second phase in step. -/
theorem inStep_enterWork (i : Instr) {s s' : State} (h : s.RQ.CMD = s'.RQ.CMD) :
    InStep (enterWork i s) (enterWork i s') := by
  cases i <;> exact ⟨h, ⟨rfl, rfl⟩, nofun⟩

/-- Settles O50: the first move is CHECK, after which the two are in step; a move reads no more than the word, the
phase and its counter to choose the next phase. -/
theorem controlFlowDependsOnTheCommandWordOnly : Obligations.ControlFlowDependsOnTheCommandWordOnly := by
  rintro i s s' t t' count ⟨-, hph⟩ ⟨-, hph'⟩ hword hdec hcheck hcheck' ht ht'
  cases count with
  | zero =>
    cases ht
    cases ht'
    rw [hph, hph']
  | succ count =>
    rw [ticks_succ (tick_check_of_pass hph hdec hcheck)] at ht
    rw [ticks_succ (tick_check_of_pass hph' (hword ▸ hdec) hcheck')] at ht'
    exact (InStep.ticks (inStep_enterWork i (s := passCheck s) (s' := passCheck s') hword) count ht ht').control.phase

end Sys2Proof.Machine
end

section
/-!
SUPPORT. The laws of the Word operators: subtraction is the inverse of addition (40_word_arith.md R102), and a rotation
exchanges the two parts of a Word (41_rotate.md R110 to R113).
-/

namespace Sys2Proof.Machine

/-! ### Addition and subtraction -/

theorem wadd_comm (w : Width) (a b : Carrier) : wadd w a b = wadd w b a := by
  rw [wadd, wadd, Nat.add_comm]

/-- Subtracting a Word that was added. -/
theorem wsub_wadd {w : Width} {a b : Carrier} (ha : IsWord w a) (hb : IsWord w b) : wsub w (wadd w a b) b = a := by
  apply BitVec.eq_of_toNat_eq
  have hle : b.toNat ≤ 2 ^ w.bits := Nat.le_of_lt hb
  simp only [wsub, wadd, toNat_narrow]
  rw [Nat.add_sub_assoc hle, Nat.mod_add_mod, Nat.add_assoc, Nat.add_sub_cancel' hle, Nat.add_mod_right,
    Nat.mod_eq_of_lt ha]

/-- Adding a Word that was subtracted. -/
theorem wadd_wsub {w : Width} {a b : Carrier} (ha : IsWord w a) (hb : IsWord w b) : wadd w (wsub w a b) b = a := by
  apply BitVec.eq_of_toNat_eq
  have hle : b.toNat ≤ a.toNat + 2 ^ w.bits := Nat.le_add_left_of_le (Nat.le_of_lt hb)
  simp only [wsub, wadd, toNat_narrow]
  rw [Nat.mod_add_mod, Nat.sub_add_cancel hle, Nat.add_mod_right, Nat.mod_eq_of_lt ha]

/-- Settles O25: both results are narrowed, and in each order the operand added and subtracted cancels modulo
`2^w`. -/
theorem subtractionIsTheInverseOfAddition : Obligations.SubtractionIsTheInverseOfAddition :=
  fun w a b ha hb => ⟨wsub_wadd ha hb, wadd_wsub ha hb, wadd_comm w a b, isWord_wadd w a b, isWord_wsub w a b⟩

/-! ### The two parts of a rotated Word -/

/-- A number of `m + k` bits with its low `k` bits moved up by `m` and the rest below them. -/
def turned (m k x : Nat) : Nat := 2 ^ m * (x % 2 ^ k) + x / 2 ^ k

theorem div_two_pow_lt {m k x : Nat} (hx : x < 2 ^ (m + k)) : x / 2 ^ k < 2 ^ m := by
  rwa [Nat.div_lt_iff_lt_mul (Nat.two_pow_pos k), ← Nat.pow_add]

/-- Exchanging the two parts twice gives the number back. -/
theorem turned_turned {m k x : Nat} (hx : x < 2 ^ (m + k)) : turned k m (turned m k x) = x := by
  have hhigh : x / 2 ^ k < 2 ^ m := div_two_pow_lt hx
  have hmod : turned m k x % 2 ^ m = x / 2 ^ k := by rw [turned, Nat.mul_add_mod, Nat.mod_eq_of_lt hhigh]
  have hdiv : turned m k x / 2 ^ m = x % 2 ^ k := by
    rw [turned, Nat.mul_add_div (Nat.two_pow_pos m), Nat.div_eq_of_lt hhigh, Nat.add_zero]
  rw [turned, hmod, hdiv, Nat.div_add_mod]

/-- With no low part, or with nothing else, nothing moves. -/
theorem turned_zero {k x : Nat} (hx : x < 2 ^ k) : turned 0 k x = x ∧ turned k 0 x = x := by
  simp [turned, Nat.mod_eq_of_lt hx, Nat.div_eq_of_lt hx, Nat.mod_one]

/-- Bit `b` goes to bit `(b + m) mod (m + k)`. -/
theorem testBit_turned {m k x b : Nat} (hx : x < 2 ^ (m + k)) (hb : b < m + k) :
    (turned m k x).testBit ((b + m) % (m + k)) = x.testBit b := by
  rw [turned, Nat.testBit_two_pow_mul_add _ (div_two_pow_lt hx)]
  by_cases hlow : b < k
  · rw [Nat.mod_eq_of_lt (by omega), if_neg (by omega), Nat.add_sub_cancel, Nat.testBit_mod_two_pow]
    simp [hlow]
  · have hpos : (b + m) % (m + k) = b - k := by
      rw [show b + m = b - k + (m + k) by omega, Nat.add_mod_right, Nat.mod_eq_of_lt (by omega)]
    rw [hpos, if_pos (by omega), Nat.testBit_div_two_pow, Nat.sub_add_cancel (Nat.le_of_not_lt hlow)]

section
variable {w : Width} {x : Carrier} (hx : IsWord w x) (s : Carrier)
include hx

/-- A left rotation moves the low `w - m` bits up by `m`, also when `m` is zero. -/
theorem toNat_rotl_eq_turned :
    (rotl w x s).toNat = turned (rotAmount w s) (w.bits - rotAmount w s) x.toNat := by
  have hm := rotAmount_lt w s
  rw [toNat_rotl hx]
  split_ifs with hzero
  · rw [hzero, Nat.sub_zero, (turned_zero hx).1]
  · rw [turned]
    congr 1
    rw [Nat.mul_comm, show w.bits = rotAmount w s + (w.bits - rotAmount w s) by omega, Nat.pow_add,
      Nat.mul_mod_mul_left, Nat.add_sub_cancel_left]

/-- A right rotation moves the low `m` bits up by `w - m`. -/
theorem toNat_rotr_eq_turned :
    (rotr w x s).toNat = turned (w.bits - rotAmount w s) (rotAmount w s) x.toNat := by
  rw [toNat_rotr hx]
  split_ifs with hzero
  · rw [hzero, Nat.sub_zero, (turned_zero hx).2]
  · rw [turned, Nat.add_comm, Nat.mul_comm]

/-- The two parts of a Word make up its width. -/
theorem lt_two_pow_parts :
    x.toNat < 2 ^ (rotAmount w s + (w.bits - rotAmount w s)) ∧
    x.toNat < 2 ^ (w.bits - rotAmount w s + rotAmount w s) := by
  have hm := rotAmount_lt w s
  rw [Nat.add_sub_cancel' hm.le, Nat.sub_add_cancel hm.le]
  exact ⟨hx, hx⟩

theorem rotr_rotl : rotr w (rotl w x s) s = x := by
  apply BitVec.eq_of_toNat_eq
  rw [toNat_rotr_eq_turned (isWord_rotl hx s), toNat_rotl_eq_turned hx, turned_turned (lt_two_pow_parts hx s).1]

theorem rotl_rotr : rotl w (rotr w x s) s = x := by
  apply BitVec.eq_of_toNat_eq
  rw [toNat_rotl_eq_turned (isWord_rotr hx s), toNat_rotr_eq_turned hx, turned_turned (lt_two_pow_parts hx s).2]

/-- A left rotation moves bit `b` to bit `(b + m) mod w` (41_rotate.md R111). -/
theorem getLsbD_rotl {b : Nat} (hb : b < w.bits) :
    (rotl w x s).getLsbD ((b + rotAmount w s) % w.bits) = x.getLsbD b := by
  have hsum : rotAmount w s + (w.bits - rotAmount w s) = w.bits := Nat.add_sub_cancel' (rotAmount_lt w s).le
  have hbit := testBit_turned (lt_two_pow_parts hx s).1 (b := b) (by omega)
  rwa [← toNat_rotl_eq_turned hx, hsum] at hbit

/-- A right rotation moves bit `b` to bit `(b - m) mod w` (41_rotate.md R112). -/
theorem getLsbD_rotr {b : Nat} (hb : b < w.bits) :
    (rotr w x s).getLsbD ((b + w.bits - rotAmount w s) % w.bits) = x.getLsbD b := by
  have hsum : w.bits - rotAmount w s + rotAmount w s = w.bits := Nat.sub_add_cancel (rotAmount_lt w s).le
  have hbit := testBit_turned (lt_two_pow_parts hx s).2 (b := b) (by omega)
  rwa [← toNat_rotr_eq_turned hx, hsum, ← Nat.add_sub_assoc (rotAmount_lt w s).le] at hbit

end

/-! ### The laws -/

/-- The amount counts modulo `w` only (41_rotate.md R110). -/
theorem rotate_congr (w : Width) (x : Carrier) {s s' : Carrier} (h : rotAmount w s = rotAmount w s') :
    rotl w x s = rotl w x s' ∧ rotr w x s = rotr w x s' := by
  simp only [rotl, rotr, h, and_self]

/-- An amount of zero rotates by nothing. -/
theorem rotate_of_rotAmount_eq_zero (x : Carrier) {w : Width} {s : Carrier} (h : rotAmount w s = 0) :
    rotl w x s = x ∧ rotr w x s = x := ⟨if_pos h, if_pos h⟩

/-- What is left of the width, as an amount. -/
theorem rotAmount_rest (w : Width) (s : Carrier) :
    rotAmount w (BitVec.ofNat 128 (w.bits - rotAmount w s)) = (w.bits - rotAmount w s) % w.bits := by
  have hw := w.bits_le
  rw [rotAmount, BitVec.toNat_ofNat, Nat.mod_eq_of_lt (a := w.bits - rotAmount w s) (by omega)]

/-- A right rotation is the left rotation by the rest of the width (41_rotate.md R112). -/
theorem rotr_eq_rotl {w : Width} {x : Carrier} (hx : IsWord w x) (s : Carrier) :
    rotr w x s = rotl w x (BitVec.ofNat 128 (w.bits - rotAmount w s)) := by
  have hrest := rotAmount_rest w s
  have hm := rotAmount_lt w s
  by_cases hzero : rotAmount w s = 0
  · rw [hzero, Nat.sub_zero, Nat.mod_self] at hrest
    rw [(rotate_of_rotAmount_eq_zero x hzero).2, hzero, Nat.sub_zero, (rotate_of_rotAmount_eq_zero x hrest).1]
  · rw [Nat.mod_eq_of_lt (by omega)] at hrest
    apply BitVec.eq_of_toNat_eq
    rw [toNat_rotr_eq_turned hx, toNat_rotl_eq_turned hx, hrest, Nat.sub_sub_self hm.le]

/-- Settles O28: two rotations by one amount exchange the same two parts of the Word back, and the amount enters only
through its residue. -/
theorem rotationsUndoEachOtherAndReduceTheirAmount : Obligations.RotationsUndoEachOtherAndReduceTheirAmount :=
  fun w x s hx _ => ⟨rotr_rotl hx s, rotl_rotr hx s,
    fun hdvd => rotate_of_rotAmount_eq_zero x (Nat.mod_eq_zero_of_dvd hdvd), fun _ h => rotate_congr w x h,
    rotr_eq_rotl hx s⟩

/-! ### The number of one bits -/

/-- The one bits of a carrier. -/
def oneBits (x : Carrier) : Finset (Fin 128) := Finset.univ.filter fun b : Fin 128 => x.getLsbD b = true

/-- A one bit of a Word is below its width. -/
theorem lt_bits_of_mem_oneBits {w : Width} {x : Carrier} (hx : IsWord w x) {b : Fin 128} (hb : b ∈ oneBits x) :
    b.val < w.bits := by
  by_contra hge
  have hzero : x.toNat.testBit b = false :=
    Nat.testBit_lt_two_pow (Nat.lt_of_lt_of_le hx (Nat.pow_le_pow_right Nat.two_pos (Nat.le_of_not_lt hge)))
  have hone : x.toNat.testBit b = true := (Finset.mem_filter.1 hb).2
  exact Bool.false_ne_true (hzero.symm.trans hone)

/-- A move of every bit of a Word by one distance modulo the width loses no one bit: different bits go to different
places. -/
theorem card_oneBits_le {w : Width} {x y : Carrier} (hx : IsWord w x) (m : Nat)
    (hmove : ∀ b < w.bits, y.getLsbD ((b + m) % w.bits) = x.getLsbD b) : (oneBits x).card ≤ (oneBits y).card := by
  have hlt : ∀ b : Fin 128, (b.val + m) % w.bits < 128 := fun b =>
    Nat.lt_of_lt_of_le (Nat.mod_lt _ w.bits_pos) w.bits_le
  refine Finset.card_le_card_of_injOn (fun b => ⟨(b.val + m) % w.bits, hlt b⟩) (fun b hb => ?_) fun b hb b' hb' h => ?_
  · have hone := (Finset.mem_filter.1 hb).2
    exact Finset.mem_filter.2 ⟨Finset.mem_univ _, (hmove b (lt_bits_of_mem_oneBits hx hb)).trans hone⟩
  · have hmod : b.val ≡ b'.val [MOD w.bits] := Nat.ModEq.add_right_cancel' m (congrArg Fin.val h)
    exact Fin.ext (hmod.eq_of_lt_of_lt (lt_bits_of_mem_oneBits hx hb) (lt_bits_of_mem_oneBits hx hb'))

section
variable {w : Width} {x : Carrier} (hx : IsWord w x) (s : Carrier)
include hx

theorem card_oneBits_le_rotl : (oneBits x).card ≤ (oneBits (rotl w x s)).card :=
  card_oneBits_le hx (rotAmount w s) fun _ hb => getLsbD_rotl hx s hb

theorem card_oneBits_le_rotr : (oneBits x).card ≤ (oneBits (rotr w x s)).card := by
  refine card_oneBits_le hx (w.bits - rotAmount w s) fun b hb => ?_
  rw [← Nat.add_sub_assoc (rotAmount_lt w s).le]
  exact getLsbD_rotr hx s hb

end

/-- Settles O29: neither rotation loses a one bit, and each undoes the other, so neither gains one. -/
theorem rotationsKeepTheNumberOfOneBits : Obligations.RotationsKeepTheNumberOfOneBits := by
  intro w x s hx
  have hl := card_oneBits_le_rotr (isWord_rotl hx s) s
  have hr := card_oneBits_le_rotl (isWord_rotr hx s) s
  rw [rotr_rotl hx] at hl
  rw [rotl_rotr hx] at hr
  exact ⟨hl.antisymm (card_oneBits_le_rotl hx s), hr.antisymm (card_oneBits_le_rotr hx s)⟩

/-! ### The commands -/

/-- ROTL on two Words. -/
theorem exec_rotl_of_words {w : Width} {s : State} (h0 : IsWord w s.RQ.X0) (h1 : IsWord w s.RQ.X1) :
    exec (.rotl w) s = .next (s.afterResponse (Response.word (rotl w s.RQ.X0 s.RQ.X1))) := by
  have hcheck : checkOf (.rotl w) s.RQ = none := (checkPair_eq_none_iff w s.RQ).2 ⟨h0, h1⟩
  simp [exec_of_pass hcheck, commandWork, rotlPhase, portWord_eq h0, portWord_eq h1]

/-- ROTR on two Words. -/
theorem exec_rotr_of_words {w : Width} {s : State} (h0 : IsWord w s.RQ.X0) (h1 : IsWord w s.RQ.X1) :
    exec (.rotr w) s = .next (s.afterResponse (Response.word (rotr w s.RQ.X0 s.RQ.X1))) := by
  have hcheck : checkOf (.rotr w) s.RQ = none := (checkPair_eq_none_iff w s.RQ).2 ⟨h0, h1⟩
  simp [exec_of_pass hcheck, commandWork, rotrPhase, portWord_eq h0, portWord_eq h1]

/-- Settles O26: the word is the encoding of ROTL; on two Words the answer is `rotl`, which moves each bit up; and the
port check answers ConversionError otherwise. -/
theorem rotlMovesEveryBitTowardTheTop : Obligations.RotlMovesEveryBitTowardTheTop :=
  fun w _ => ⟨fun c => decode_eq_ok_iff_eq_encode c (i := .rotl w) rfl,
    fun h0 h1 => ⟨_, exec_rotl_of_words h0 h1, isWord_rotl h0 _, fun _ hb => getLsbD_rotl h0 _ hb⟩,
    fun h => exec_of_checkOf_some (i := .rotl w) (checkPair_of_not_words h)⟩

/-- Settles O27: the word is the encoding of ROTR; on two Words the answer is `rotr`, which moves each bit down; and
the port check answers ConversionError otherwise. -/
theorem rotrMovesEveryBitTowardTheBottom : Obligations.RotrMovesEveryBitTowardTheBottom :=
  fun w _ => ⟨fun c => decode_eq_ok_iff_eq_encode c (i := .rotr w) rfl,
    fun h0 h1 => ⟨_, exec_rotr_of_words h0 h1, isWord_rotr h0 _, fun _ hb => getLsbD_rotr h0 _ hb⟩,
    fun h => exec_of_checkOf_some (i := .rotr w) (checkPair_of_not_words h)⟩

end Sys2Proof.Machine
end

section
/-!
SUPPORT. Strings of bytes as Words: TOLE and FROMLE undo each other, and PACK lays the key bytes at the same lanes
(42_word_bytes_const.md R123, 20_memory.md R55).
-/

namespace Sys2Proof.Machine

/-! ### TOLE and FROMLE -/

/-- The bytes of a number, each at its weight, add up to its low part. -/
theorem sum_bytes_of_nat (x u : Nat) : ∑ k ∈ Finset.range u, x / 256 ^ k % 256 * 256 ^ k = x % 256 ^ u := by
  induction u with
  | zero => simp [Nat.mod_one]
  | succ u ih => rw [Finset.sum_range_succ, ih, Nat.mod_pow_succ, Nat.mul_comm (256 ^ u)]

theorem length_toLeBytes (w : Width) (x : Carrier) : (toLeBytes w x).length = w.bytes := by simp [toLeBytes]

theorem getD_toLeBytes (w : Width) (x : Carrier) {k : Nat} (hk : k < w.bytes) :
    (toLeBytes w x).getD k 0 = byteOf x k := by
  simp [toLeBytes, hk]

theorem toNat_byteOf (x : Carrier) (k : Nat) : (byteOf x k).toNat = x.toNat / 256 ^ k % 256 := by
  rw [byteOf, ofNat_slice_byte, toNat_extractLsb'_eq, Nat.pow_mul]
  rfl

/-- The Word of the byte string of a Word is that Word. -/
theorem fromLeBytes_of_toLeBytes {w : Width} {x : Carrier} (hx : IsWord w x) {buf : Memory 8}
    (hbuf : ∀ k < w.bytes, Memory.read buf k = (toLeBytes w x).getD k 0) : fromLeBytes w buf = x := by
  apply BitVec.eq_of_toNat_eq
  have hbyte : ∀ k ∈ Finset.range w.bytes,
      (Memory.read buf k).toNat * 256 ^ k = x.toNat / 256 ^ k % 256 * 256 ^ k := fun k hk => by
    have hk := Finset.mem_range.1 hk
    rw [hbuf k hk, getD_toLeBytes w x hk, toNat_byteOf]
  rw [toNat_fromLeBytes, Finset.sum_congr rfl hbyte, sum_bytes_of_nat, ← modulus_eq_pow_bytes, Nat.mod_eq_of_lt hx]

/-- The byte string of the Word of a byte string is that string. -/
theorem toLeBytes_fromLeBytes (w : Width) (buf : Memory 8) :
    toLeBytes w (fromLeBytes w buf) = (List.range w.bytes).map (Memory.read buf) := by
  rw [toLeBytes_eq]
  exact List.map_congr_left fun k hk => extractLsb'_fromLeBytes w buf (List.mem_range.1 hk)

/-! ### The byte lanes of the packed key -/

/-- The key byte at lane `k` of the packed Word `q`, zero past the key. -/
def keyByte (w : Width) (n : Nat) (buf : Memory 8) (q k : Nat) : Byte :=
  if q * w.bytes + k < n then Memory.read buf (q * w.bytes + k) else 0

/-- The packed Word `q` is the sum over its lanes: its key bytes are those at `q * u` to `q * u + u - 1`. -/
theorem packedSum_eq_sum_lanes (w : Width) (n : Nat) (buf : Memory 8) (q : Nat) :
    Reference.packedSum w n buf q = ∑ k ∈ Finset.range w.bytes, (keyByte w n buf q k).toNat * 256 ^ k := by
  have hlist : Reference.packedSum w n buf q = ∑ h ∈ (Finset.range n).filter (fun h => h / w.bytes = q),
      (Memory.read buf h).toNat * 256 ^ (h % w.bytes) := by
    rw [Reference.packedSum, ← List.sum_toFinset _ (List.nodup_range.filter _)]
    congr 1
    ext h
    simp
  have hlanes : ∑ k ∈ Finset.range w.bytes, (keyByte w n buf q k).toNat * 256 ^ k =
      ∑ k ∈ (Finset.range w.bytes).filter (fun k => q * w.bytes + k < n),
        (Memory.read buf (q * w.bytes + k)).toNat * 256 ^ k := by
    rw [Finset.sum_filter]
    refine Finset.sum_congr rfl fun k _ => ?_
    unfold keyByte
    split_ifs <;> simp
  have hsplit : ∀ h, h / w.bytes = q → q * w.bytes + h % w.bytes = h := fun h e => e ▸ Nat.div_add_mod' h w.bytes
  rw [hlist, hlanes]
  refine Finset.sum_nbij' (· % w.bytes) (q * w.bytes + ·) ?_ ?_ ?_ ?_ ?_ <;>
    simp only [Finset.mem_filter, Finset.mem_range]
  · exact fun h ⟨hn, e⟩ => ⟨Nat.mod_lt _ w.bytes_pos, by rwa [hsplit h e]⟩
  · exact fun k ⟨hk, hn⟩ => ⟨hn, by
      rw [Nat.mul_comm, Nat.mul_add_div w.bytes_pos, Nat.div_eq_of_lt hk, Nat.add_zero]⟩
  · exact fun h ⟨_, e⟩ => hsplit h e
  · exact fun k ⟨hk, _⟩ => by rw [Nat.mul_comm, Nat.mul_add_mod, Nat.mod_eq_of_lt hk]
  · exact fun h ⟨_, e⟩ => by rw [hsplit h e]

/-- Byte `h` of the key is byte lane `h mod u` of the packed Word `h div u`. -/
theorem packedSum_lane (w : Width) {n h : Nat} (buf : Memory 8) (hh : h < n) :
    Reference.packedSum w n buf (h / w.bytes) / 256 ^ (h % w.bytes) % 256 = (Memory.read buf h).toNat := by
  rw [packedSum_eq_sum_lanes, sum_bytes_lane _ (Nat.mod_lt h w.bytes_pos), keyByte, Nat.div_add_mod', if_pos hh]

/-- A key of `w/8` bytes packs into one Word, at the lanes FROMLE uses (42_word_bytes_const.md R123). -/
theorem packedSum_one_word (w : Width) (buf : Memory 8) :
    Reference.packedSum w w.bytes buf 0 = (fromLeBytes w buf).toNat := by
  rw [packedSum_eq_sum_lanes, toNat_fromLeBytes]
  refine Finset.sum_congr rfl fun k hk => ?_
  rw [keyByte, Nat.zero_mul, Nat.zero_add, if_pos (Finset.mem_range.1 hk)]

/-- Settles O32: FROMLE adds up the bytes that TOLE takes apart, and a key of `w/8` bytes lies in the one Word `L[0]`
at the same lanes. -/
theorem toleAndFromleUndoEachOther : Obligations.ToleAndFromleUndoEachOther := by
  refine ⟨fun w s t hx => ?_, fun w s t => ?_⟩
  · refine ⟨toLeBytes w s.RQ.X0, exec_tole_of_word hx, length_toLeBytes w _, fun hbuf => ?_⟩
    rw [← fromLeBytes_of_toLeBytes hx hbuf]
    exact exec_fromle_of_length t rfl
  · refine ⟨fromLeBytes w s.RQ.BUF, exec_fromle_of_length s rfl, fun hX0 => ?_, fun hs => ?_⟩
    · have hexec := exec_tole_of_word (w := w) (s := t) (hX0 ▸ isWord_fromLeBytes w _)
      rwa [hX0, toLeBytes_fromLeBytes] at hexec
    · have hn : w.bytes ≤ 255 := w.bytes_le.trans (by decide)
      apply BitVec.eq_of_toNat_eq
      rw [toNat_read_packPhase w hn hs.1 (keyWords_pos w _), packedSum_one_word]

/-! ### What PACK leaves unchanged -/

/-- An iteration of PACK writes only a Word of the packed key. -/
theorem read_packIter_iterate_of_le (w : Width) {n q : Nat} (hq : keyWords w n ≤ q) (m : Nat) {s : State}
    (hh : s.h.val < n) : Memory.read ((packIter w)^[m] s).L q = Memory.read s.L q := by
  induction m with
  | zero => rfl
  | succ m ih =>
    have hidx : ((packIter w)^[m] s).h.val < n := (packIter_iterate_h w m).trans_lt (by omega)
    have hne : q ≠ ((packIter w)^[m] s).h.val / w.bytes :=
      Nat.ne_of_gt (Nat.lt_of_lt_of_le (div_bytes_lt_keyWords w hidx) hq)
    rw [Function.iterate_succ_apply', packIter_L, Memory.read_write_other _ hne, ih]

/-- PACK leaves the cells past the packed key as they were. -/
theorem read_packPhase_of_le (w : Width) {n q : Nat} {s : State} (hn : n ≤ 255) (hL : Memory.wf Config.keyDepth s.L)
    (hq : keyWords w n ≤ q) : Memory.read (packPhase w n s).L q = Memory.read s.L q := by
  have hentry : Memory.read (enterPack w n s).L q = Memory.read s.L q :=
    (Memory.read_clear hL (keyWords_le hn w) q).trans (if_neg (Nat.not_lt_of_ge hq))
  cases n with
  | zero => exact hentry
  | succ n =>
    have hh : (enterPack w (n + 1) s).h.val < n + 1 := Nat.lt_succ_of_le (Nat.mod_le _ _)
    exact (read_packIter_iterate_of_le w hq (n + 1) hh).trans hentry

/-- But for the packed key and its index, PACK only sets the phase. -/
theorem packPhase_frame (w : Width) (n : Nat) (s : State) :
    packPhase w n s = { s with L := (packPhase w n s).L, h := (packPhase w n s).h, PH := .pack } :=
  iterate_keeps (packIter w) (fun t => (t.setL (packPhase w n s).L).setH (packPhase w n s).h) (fun _ => rfl) n
    (enterPack w n s)

/-- Settles O34: each cell of the packed key is the reference's byte sum, in which byte `h` has its own lane; the cells
past it and the rest of the state are PACK's frame. -/
theorem packLaysTheKeyBytesLittleEndian : Obligations.PackLaysTheKeyBytesLittleEndian := by
  intro w n s hn hs
  have hsum : ∀ q < keyWords w n, (Memory.read (packPhase w n s).L q).toNat = Reference.packedSum w n s.RQ.BUF q :=
    fun q hq => toNat_read_packPhase w hn hs.1 hq
  refine ⟨hsum, fun h hh => ?_, fun q hq => read_packPhase_of_le w hn hs.1 hq, packPhase_frame w n s, ?_⟩
  · apply BitVec.eq_of_toNat_eq
    rw [toNat_extractLsb'_eq, hsum _ (div_bytes_lt_keyWords w hh), Nat.pow_mul]
    exact packedSum_lane w s.RQ.BUF hh
  · rintro rfl
    exact BitVec.eq_of_toNat_eq (hsum 0 (keyWords_pos w 0))

end Sys2Proof.Machine
end

section
/-!
SUPPORT. One iteration of MIX, what EXPKEY, ENC and DEC answer, and the block transform undone round by round
(43_key_schedule.md R144, R145, R148, 44_block_transform.md R160 to R162).
-/

namespace Sys2Proof.Machine

open Reference (encryptBlock decryptBlock subkeys)

/-! ### One iteration of MIX -/

/-- Adding three Words narrows once. -/
theorem wadd_wadd (w : Width) (a b c : Carrier) : wadd w (wadd w a b) c = narrow w (a.toNat + b.toNat + c.toNat) := by
  apply BitVec.eq_of_toNat_eq
  simp only [wadd, toNat_narrow, Nat.mod_add_mod]

/-- But for the two registers, the two memories and the three counters, an iteration of MIX changes nothing. -/
theorem mixIter_frame (w : Width) (n r : Nat) (s : State) :
    mixIter w n r s =
      { s with A := (mixIter w n r s).A, B := (mixIter w n r s).B, S := (mixIter w n r s).S, L := (mixIter w n r s).L,
               i := (mixIter w n r s).i, j := (mixIter w n r s).j, k := (mixIter w n r s).k } := rfl

/-- Settles O36: the two registers are the new cells, each written where its index stands, and the indexes advance at
their own lengths. -/
theorem oneMixIterationRunsTheFiveStatementsInOrder : Obligations.OneMixIterationRunsTheFiveStatementsInOrder := by
  intro w n r s hn hr hs _ _ hk
  obtain ⟨hA, hB, hS, hL⟩ := mixIter_work w n r hs.1 hs.2
  obtain ⟨hi, hj⟩ := mixIter_index w s hn hr
  have hframe := mixIter_frame w n r s
  rw [hA, hB] at hframe
  refine ⟨mixedA w s, wadd w (mixedA w s) s.B, mixedB w s, ?_, rfl, rfl, hA, hB, fun q => ?_, fun q => ?_, hi, hj,
    mixIter_k w n r (hk.trans_le (mixCount_le hn hr w)), hframe⟩
  · rw [mixedA, wadd_wadd, narrow]
  · rw [hS, Memory.read_write hs.2]
  · rw [hL, Memory.read_write hs.1]

/-! ### The answers of the commands -/

/-- Settles O37: within the limit EXPKEY answers the table of the reference, and above it the round count is the check
that fails. -/
theorem expkeyAnswersTheExpandedKey : Obligations.ExpkeyAnswersTheExpandedKey :=
  fun w n r _ hn hs => ⟨fun hr => ⟨exec_expkey_of_rounds hn hr hs, length_subkeys w hn hr hs⟩,
    fun hr => exec_of_checkOf_some (i := .expkey w n r) (checkRounds_of_gt hr)⟩

/-- Settles O39: ENC within the limits, on two Words. -/
theorem encAnswersTheEncryptedBlock : Obligations.EncAnswersTheEncryptedBlock :=
  fun _ _ _ _ hn hr hs h0 h1 => exec_enc_of_words hn hr hs h0 h1

/-- Settles O40: DEC within the limits, on two Words. -/
theorem decAnswersTheDecryptedBlock : Obligations.DecAnswersTheDecryptedBlock :=
  fun _ _ _ _ hn hr hs h0 h1 => exec_dec_of_words hn hr hs h0 h1

/-- Settles O41: the table is the reference's expanded key, in all three answers. -/
theorem encAndDecUseTheTableExpkeyReturns : Obligations.EncAndDecUseTheTableExpkeyReturns :=
  fun w n r s hn hr hs h0 h1 => ⟨subkeys w n r s.RQ.BUF, exec_expkey_of_rounds hn hr hs,
    exec_enc_of_words hn hr hs h0 h1, exec_dec_of_words hn hr hs h0 h1⟩

/-! ### Words throughout -/

/-- A list of Words of one width. -/
def AllWords (w : Width) (tbl : List Carrier) : Prop := ∀ x ∈ tbl, IsWord w x

theorem AllWords.getD {w : Width} {tbl : List Carrier} (h : AllWords w tbl) (a : Nat) : IsWord w (tbl.getD a 0) := by
  by_cases ha : a < tbl.length
  · rw [List.getD_eq_getElem _ _ ha]
    exact h _ (List.getElem_mem ha)
  · rw [List.getD_eq_default _ _ (Nat.le_of_not_lt ha)]
    exact isWord_zero w

/-- The expanded key is a list of Words: INIT starts from narrowed ones and each iteration writes a rotated sum. -/
theorem allWords_subkeys (w : Width) (n r : Nat) (buf : Memory 8) : AllWords w (subkeys w n r buf) := by
  have hinit : AllWords w (Reference.magicTable w r) := fun x hx => by
    obtain ⟨a, -, rfl⟩ := List.mem_map.1 hx
    exact isWord_narrow w _
  have hstep : ∀ (m : Reference.Mixing) (k : Nat), AllWords w m.S → AllWords w (Reference.mixOnce w m k).S :=
    fun m k hm x hx => by
      obtain hx | rfl := List.mem_or_eq_of_mem_set hx
      · exact hm x hx
      · exact isWord_rotl (isWord_wadd w _ _) 3
  refine List.foldlRecOn (motive := fun m => AllWords w m.S) _ _ ?_ fun m hm k _ => hstep m k hm
  exact hinit

/-- A block of two Words of one width. -/
def WordPair (w : Width) (ab : Carrier × Carrier) : Prop := IsWord w ab.1 ∧ IsWord w ab.2

section
variable {w : Width} {tbl : List Carrier} {ab : Carrier × Carrier}

theorem wordPair_encStep (ab : Carrier × Carrier) (t : Nat) : WordPair w (encStep w tbl ab t) :=
  ⟨isWord_wadd w _ _, isWord_wadd w _ _⟩

theorem wordPair_decStep (h : WordPair w ab) (t : Nat) : WordPair w (decStep w tbl t ab) := by
  have hb : IsWord w (decStep w tbl t ab).2 := isWord_wxor (isWord_rotr (isWord_wsub w _ _) _) h.1
  exact ⟨isWord_wxor (isWord_rotr (isWord_wsub w _ _) _) hb, hb⟩

theorem wordPair_encRounds (h : WordPair w ab) (r : Nat) : WordPair w ((List.range r).foldl (encStep w tbl) ab) :=
  List.foldlRecOn (motive := WordPair w) _ _ h fun ab _ t _ => wordPair_encStep ab t

theorem wordPair_decRounds (h : WordPair w ab) (r : Nat) : WordPair w ((List.range r).foldr (decStep w tbl) ab) :=
  List.foldrRecOn (motive := WordPair w) _ _ h fun _ hab t _ => wordPair_decStep hab t

theorem wordPair_encryptBlock (w : Width) (tbl : List Carrier) (r : Nat) (a b : Carrier) :
    WordPair w (encryptBlock w tbl r a b) :=
  wordPair_encRounds ⟨isWord_wadd w _ _, isWord_wadd w _ _⟩ r

theorem wordPair_decryptBlock (w : Width) (tbl : List Carrier) (r : Nat) (a b : Carrier) :
    WordPair w (decryptBlock w tbl r a b) := ⟨isWord_wsub w _ _, isWord_wsub w _ _⟩

/-! ### The rounds undone -/

theorem wxor_cancel (a b : Carrier) : wxor (wxor a b) b = a := by
  rw [wxor, wxor, BitVec.xor_assoc, BitVec.xor_self, BitVec.xor_zero]

/-- A half round of DEC undoes the half round of ENC with the same amount and subkey. -/
theorem decHalf_encHalf {x y k : Carrier} (hx : IsWord w x) (hy : IsWord w y) (hk : IsWord w k) :
    wxor (rotr w (wsub w (wadd w (rotl w (wxor x y) y) k) k) y) y = x := by
  have hxy : IsWord w (wxor x y) := isWord_wxor hx hy
  rw [wsub_wadd (isWord_rotl hxy y) hk, rotr_rotl hxy, wxor_cancel]

/-- A half round of ENC undoes the half round of DEC with the same amount and subkey. -/
theorem encHalf_decHalf {x k : Carrier} (y : Carrier) (hx : IsWord w x) (hk : IsWord w k) :
    wadd w (rotl w (wxor (wxor (rotr w (wsub w x k) y) y) y) y) k = x := by
  rw [wxor_cancel, rotl_rotr (isWord_wsub w x k), wadd_wsub hx hk]

variable (htbl : AllWords w tbl) (h : WordPair w ab)
include htbl h

theorem decStep_encStep (t : Nat) : decStep w tbl t (encStep w tbl ab t) = ab := by
  obtain ⟨ha, hb⟩ := h
  have ha' : IsWord w (encStep w tbl ab t).1 := (wordPair_encStep ab t).1
  have hB : (decStep w tbl t (encStep w tbl ab t)).2 = ab.2 := decHalf_encHalf hb ha' (htbl.getD _)
  refine Prod.ext ?_ hB
  change wxor (rotr w (wsub w (encStep w tbl ab t).1 _) (decStep w tbl t (encStep w tbl ab t)).2)
    (decStep w tbl t (encStep w tbl ab t)).2 = ab.1
  rw [hB]
  exact decHalf_encHalf ha hb (htbl.getD _)

theorem encStep_decStep (t : Nat) : encStep w tbl (decStep w tbl t ab) t = ab := by
  obtain ⟨ha, hb⟩ := h
  have hA : (encStep w tbl (decStep w tbl t ab) t).1 = ab.1 := encHalf_decHalf _ ha (htbl.getD _)
  refine Prod.ext hA ?_
  change wadd w (rotl w (wxor (decStep w tbl t ab).2 (encStep w tbl (decStep w tbl t ab) t).1)
    (encStep w tbl (decStep w tbl t ab) t).1) _ = ab.2
  rw [hA]
  exact encHalf_decHalf _ hb (htbl.getD _)

/-- The rounds of DEC, last first, undo those of ENC. -/
theorem decRounds_encRounds (r : Nat) :
    (List.range r).foldr (decStep w tbl) ((List.range r).foldl (encStep w tbl) ab) = ab := by
  induction r with
  | zero => rfl
  | succ r ih =>
    simp only [List.range_succ, List.foldl_append, List.foldr_append, List.foldl_cons, List.foldl_nil,
      List.foldr_cons, List.foldr_nil]
    rw [decStep_encStep htbl (wordPair_encRounds h r), ih]

/-- The rounds of ENC undo those of DEC. -/
theorem encRounds_decRounds (r : Nat) :
    (List.range r).foldl (encStep w tbl) ((List.range r).foldr (decStep w tbl) ab) = ab := by
  induction r generalizing ab with
  | zero => rfl
  | succ r ih =>
    simp only [List.range_succ, List.foldl_append, List.foldr_append, List.foldl_cons, List.foldl_nil,
      List.foldr_cons, List.foldr_nil]
    rw [ih (wordPair_decStep h r), encStep_decStep htbl h]

end

section
variable {w : Width} {tbl : List Carrier} (htbl : AllWords w tbl) {a b : Carrier} (ha : IsWord w a) (hb : IsWord w b)
include htbl ha hb

/-- `decrypt` undoes `encrypt` under one table of Words (44_block_transform.md R162). -/
theorem decryptBlock_encryptBlock (r : Nat) :
    decryptBlock w tbl r (encryptBlock w tbl r a b).1 (encryptBlock w tbl r a b).2 = (a, b) := by
  rw [decryptBlock_eq, Prod.mk.eta, encryptBlock_eq,
    decRounds_encRounds htbl ⟨isWord_wadd w _ _, isWord_wadd w _ _⟩, wsub_wadd ha (htbl.getD 0),
    wsub_wadd hb (htbl.getD 1)]

/-- `encrypt` undoes `decrypt` under one table of Words (44_block_transform.md R162). -/
theorem encryptBlock_decryptBlock (r : Nat) :
    encryptBlock w tbl r (decryptBlock w tbl r a b).1 (decryptBlock w tbl r a b).2 = (a, b) := by
  obtain ⟨ha', hb'⟩ := wordPair_decRounds (tbl := tbl) (ab := (a, b)) ⟨ha, hb⟩ r
  rw [encryptBlock_eq, decryptBlock_eq, wadd_wsub ha' (htbl.getD 0), wadd_wsub hb' (htbl.getD 1), Prod.mk.eta,
    encRounds_decRounds htbl ⟨ha, hb⟩]

end

/-- Settles O42: both commands work with the expanded key, a table of Words that the key bytes decide, and under one
such table each of `encrypt` and `decrypt` undoes the other. -/
theorem encAndDecUndoEachOther : Obligations.EncAndDecUndoEachOther := by
  intro w n r s hn hr hs h0 h1
  have htbl := allWords_subkeys w n r s.RQ.BUF
  refine ⟨⟨_, _, exec_enc_of_words hn hr hs h0 h1, fun t ht hX0 hX1 hkey => ?_⟩,
    ⟨_, _, exec_dec_of_words hn hr hs h0 h1, fun t ht hX0 hX1 hkey => ?_⟩⟩
  · obtain ⟨ha, hb⟩ := wordPair_encryptBlock w (subkeys w n r s.RQ.BUF) r s.RQ.X0 s.RQ.X1
    have hexec := exec_dec_of_words hn hr ht (hX0 ▸ ha) (hX1 ▸ hb)
    rwa [hX0, hX1, subkeys_congr w r hkey, decryptBlock_encryptBlock htbl h0 h1] at hexec
  · obtain ⟨ha, hb⟩ := wordPair_decryptBlock w (subkeys w n r s.RQ.BUF) r s.RQ.X0 s.RQ.X1
    have hexec := exec_enc_of_words hn hr ht (hX0 ▸ ha) (hX1 ▸ hb)
    rwa [hX0, hX1, subkeys_congr w r hkey, encryptBlock_decryptBlock htbl h0 h1] at hexec

end Sys2Proof.Machine
end

section
/-!
SUPPORT. The statuses and the response fields of each command (60_exceptions.md Table R184-a, 30_encoding.md
Table R82-a), and the table of CONST (42_word_bytes_const.md R122).
-/

namespace Sys2Proof.Machine

/-! ### Statuses -/

/-- A command ends with OK, with ConversionError when its operands do not fit, or with BadLength when its round count
is above 255. -/
theorem exec_status_cases (i : Instr) (s : State) :
    ∃ rsp, exec i s = .next (s.afterResponse rsp) ∧
      (rsp.STATUS = .ok ∨ rsp.STATUS = .conversionError ∧ ¬ OperandsFit i s.RQ ∨
        rsp.STATUS = .badLength ∧ 255 < i.rOperand) := by
  obtain ⟨rsp, hexec, hconv, hlen, hok⟩ := exec_by_first_failing_check i s
  refine ⟨rsp, hexec, ?_⟩
  by_cases hfit : OperandsFit i s.RQ
  · obtain hgt | hle := Nat.lt_or_ge 255 i.rOperand
    · exact .inr (.inr ⟨congrArg Response.STATUS (hlen hfit hgt), hgt⟩)
    · exact .inl (hok hfit hle)
  · exact .inr (.inl ⟨congrArg Response.STATUS (hconv hfit), hfit⟩)

/-- Settles O21: a command without a round count cannot answer BadLength, and one that reads no operand cannot answer
ConversionError. -/
theorem eachCommandEndsWithAStatusOfItsRow : Obligations.EachCommandEndsWithAStatusOfItsRow := by
  intro i s
  obtain ⟨rsp, hexec, hstatus⟩ := exec_status_cases i s
  refine ⟨rsp, hexec, ?_⟩
  have hnone : ¬ 255 < 0 := Nat.not_lt_zero 255
  obtain h | ⟨h, hfit⟩ | ⟨h, hr⟩ := hstatus
  · cases i <;> simp [h]
  · rw [not_operandsFit_iff] at hfit
    cases i with
    | const | expkey => simp at hfit
    | _ => simp [h]
  · cases i with
    | expkey | enc | dec => simp [h]
    | _ => exact absurd hr hnone

/-! ### Response fields -/

theorem isWord_constWord (w : Width) (sel : ConstSel) : IsWord w (constWord w sel) := by
  cases sel with
  | zero => exact isWord_zero w
  | bytes => cases w <;> decide
  | p => exact isWord_romP w
  | q => exact isWord_romQ w

/-- Every Word of a result is a Word of the command's width. -/
theorem isWord_result {i : Instr} {rq : Request} (hcheck : checkOf i rq = none) :
    IsWord i.width (Reference.result i rq).Y0 ∧ IsWord i.width (Reference.result i rq).Y1 ∧
    ∀ y ∈ (Reference.result i rq).TBL, IsWord i.width y := by
  cases i with
  | add w => exact ⟨isWord_wadd w _ _, isWord_zero w, nofun⟩
  | sub w => exact ⟨isWord_wsub w _ _, isWord_zero w, nofun⟩
  | rotl w =>
    obtain ⟨h0, -⟩ := (checkPair_eq_none_iff w rq).1 hcheck
    exact ⟨isWord_rotl h0 _, isWord_zero w, nofun⟩
  | rotr w =>
    obtain ⟨h0, -⟩ := (checkPair_eq_none_iff w rq).1 hcheck
    exact ⟨isWord_rotr h0 _, isWord_zero w, nofun⟩
  | tole w => exact ⟨isWord_zero w, isWord_zero w, nofun⟩
  | fromle w n => exact ⟨isWord_fromLeBytes w _, isWord_zero w, nofun⟩
  | const w sel => exact ⟨isWord_constWord w sel, isWord_zero w, nofun⟩
  | expkey w n r => exact ⟨isWord_zero w, isWord_zero w, allWords_subkeys w n r _⟩
  | enc w n r =>
    obtain ⟨ha, hb⟩ := wordPair_encryptBlock w (Reference.subkeys w n r rq.BUF) r rq.X0 rq.X1
    exact ⟨ha, hb, nofun⟩
  | dec w n r =>
    obtain ⟨ha, hb⟩ := wordPair_decryptBlock w (Reference.subkeys w n r rq.BUF) r rq.X0 rq.X1
    exact ⟨ha, hb, nofun⟩

/-- Settles O22: an OK response is the reference's result, whose form is the one of the command's row. -/
theorem eachCommandFillsTheResponseFieldsOfItsRow : Obligations.EachCommandFillsTheResponseFieldsOfItsRow := by
  intro i s hi hs
  cases hcheck : checkOf i s.RQ with
  | some e => exact ⟨_, exec_of_checkOf_some hcheck, fun hok => absurd hok (ne_ok_of_checkOf_some hcheck)⟩
  | none =>
    obtain ⟨hY0, hY1, hTBL⟩ := isWord_result hcheck
    refine ⟨_, exec_of_checkOf_none hi hs hcheck, fun _ => ⟨hY0, hY1, hTBL, ?_⟩⟩
    cases i with
    | add | sub | rotl | rotr | fromle | const => exact ⟨rfl, rfl, rfl⟩
    | tole w => exact ⟨rfl, rfl, length_toLeBytes w _, rfl⟩
    | expkey w n r =>
      have hr : r ≤ 255 := (checkRounds_eq_none_iff r).1 hcheck
      exact ⟨rfl, rfl, rfl, length_subkeys w (Instr.nOperand_le hi) hr hs⟩
    | enc | dec => exact ⟨rfl, rfl⟩

/-! ### CONST -/

/-- CONST answers its constant, whatever the ports hold. -/
theorem exec_const (w : Width) (sel : ConstSel) (s : State) :
    exec (.const w sel) s = .next (s.afterResponse (Response.word (constWord w sel))) :=
  exec_of_pass (i := .const w sel) rfl

/-- Settles O33: the word is the encoding of CONST, the table is evaluated entry by entry, and a selector of 4 or more
is one of the reasons for which a word is rejected. -/
theorem constAnswersTheTable : Obligations.ConstAnswersTheTable := by
  refine ⟨fun w sel s => ⟨fun c => decode_eq_ok_iff_eq_encode c (i := .const w sel) rfl, ?_⟩, fun w n h4 hn => ?_⟩
  · cases sel <;> cases w <;> exact exec_const _ _ s
  · obtain ⟨hop, -, -, hN, -⟩ := fields_packFields w (op := 0x7) (n := n) (r := 0) (by decide) hn (by decide)
    refine (exists_decode_error_iff (packFields 0x7 w n 0)).2 (.inr (.inr (.inr (.inr (.inr (.inl ⟨hop, ?_⟩))))))
    rwa [hN]

/-- Settles O44: each half round is one register update that reads the other register as it then stands. -/
theorem eachRoundUpdatesTheSecondHalfFromTheNewFirstHalf :
    Obligations.EachRoundUpdatesTheSecondHalfFromTheNewFirstHalf :=
  fun _ _ _ => ⟨rfl, rfl, rfl, rfl, rfl, rfl⟩

end Sys2Proof.Machine
end

section
/-!
SUPPORT. The reset state, the host's moves and the turns of the agenda (10_state.md R35, 70_reset_and_hazards.md R210,
R213).
-/

namespace Sys2Proof.Machine

/-- Settles O1: every element of the reset state has its value by definition, and its memories list no cell. -/
theorem resetPutsEveryElementAtItsTableValue : Obligations.ResetPutsEveryElementAtItsTableValue :=
  ⟨rfl, rfl, rfl, rfl, rfl, fun a _ => Memory.read_nil a, rfl, rfl, rfl, rfl, rfl, rfl, rfl,
    fun q _ => Memory.read_nil q, fun q _ => Memory.read_nil q, rfl⟩

/-- A listed turn is taken from the state in which it is used up. -/
theorem step_of_agenda_cons {s : State} {turn : Turn} {rest : List Turn} (ha : s.agenda = turn :: rest) :
    step s = takeTurn turn (s.setAgenda rest) := by
  simp only [step, nextMove, ha]

/-- An idle engine accepts a presented request. -/
theorem step_present_of_idle {s : State} {rest : List Turn} (ha : s.agenda = .present :: rest) (hST : s.ST = .idle) :
    step s = .next (accept (s.setAgenda rest)) := by
  rw [step_of_agenda_cons ha, takeTurn, present, State.setAgenda_ST, if_pos hST]

/-- A BUSY engine uses a present turn up (log entry 12). -/
theorem step_present_of_busy {s : State} {rest : List Turn} (ha : s.agenda = .present :: rest) (hST : s.ST = .busy) :
    step s = .next (s.setAgenda rest) := by
  rw [step_of_agenda_cons ha, takeTurn, present, State.setAgenda_ST, hST, if_neg (by decide)]

/-- Settles O2: a reset clears the engine, after which it is quiet and so accepts the next request. -/
theorem resetClearsTheEngineAtAnyTime : Obligations.ResetClearsTheEngineAtAnyTime := by
  intro s rest ha
  refine ⟨clearEngine (s.setAgenda rest), step_of_agenda_cons ha, quiet_clearEngine _, Memory.read_nil,
    Memory.read_nil, Memory.read_nil, rfl, rfl, rfl, fun more hmore => ?_⟩
  obtain ⟨hST, hPH, hCMD, -⟩ := accept_fields ((clearEngine (s.setAgenda rest)).setAgenda more)
  exact ⟨_, step_present_of_idle hmore rfl, hST, hPH, hCMD⟩

/-- Settles O3: at IDLE the present turn is acceptance, and at BUSY it changes no more than the agenda. -/
theorem requestsAreAcceptedOnlyAtIdle : Obligations.RequestsAreAcceptedOnlyAtIdle := by
  refine fun s rest ha => ⟨fun hST => ?_, fun hST => ?_⟩
  · obtain ⟨-, -, hCMD, hX0, hX1, hBUF, -⟩ := accept_fields (s.setAgenda rest)
    exact ⟨_, step_present_of_idle ha hST, rfl, hCMD, hX0, hX1, hBUF⟩
  · exact step_present_of_busy ha hST

/-- Settles O6: with no turn listed the engine moves, and at IDLE that move is a wait. -/
theorem anIdleEngineWaitsForARequest : Obligations.AnIdleEngineWaitsForARequest := by
  intro s hST ha
  simp only [step, nextMove, ha, engineMove, hST]

/-- The engine's own move at CHECK is the command that the latched word spells. -/
theorem engineMove_atCheck {s : State} {i : Instr} (h : s.AtCheck) (hdec : decode s.RQ.CMD = .ok i) :
    engineMove s = exec i s := by
  obtain ⟨hST, hph⟩ := h
  simp only [engineMove, hST, if_pos hph, runCommand_of_ok hdec]

/-- The engine's own move past CHECK is a move of the sequencer. -/
theorem engineMove_past_check {s : State} (hST : s.ST = .busy) (hph : s.PH ≠ .check) : engineMove s = tick s := by
  simp only [engineMove, hST, if_neg hph]

theorem phaseMove_of_busy {s : State} (hST : s.ST = .busy) : phaseMove s = tick s := by
  simp only [phaseMove, hST]

/-- With no turn listed the step is the engine's own move. -/
theorem step_of_agenda_nil {s : State} (ha : s.agenda = []) : step s = engineMove s := by
  simp only [step, nextMove, ha]

/-- Settles O7: an empty agenda and an engine turn are the engine's own move, which at CHECK is the command and past
it a move of the sequencer, as a phase turn is. -/
theorem stepRunsTheDecodedCommand : Obligations.StepRunsTheDecodedCommand := by
  refine ⟨fun s i h hdec => ⟨fun ha => ?_, fun rest ha => ?_⟩, fun s hST => ⟨fun rest ha => ?_, fun hph ha => ?_,
    fun hph rest ha => ?_⟩⟩
  · exact (step_of_agenda_nil ha).trans (engineMove_atCheck h hdec)
  · exact (step_of_agenda_cons ha).trans (engineMove_atCheck (s := s.setAgenda rest) h hdec)
  · exact (step_of_agenda_cons ha).trans (phaseMove_of_busy (s := s.setAgenda rest) hST)
  · exact (step_of_agenda_nil ha).trans (engineMove_past_check hST hph)
  · exact (step_of_agenda_cons ha).trans (engineMove_past_check (s := s.setAgenda rest) hST hph)

end Sys2Proof.Machine
end
